-- ==== Sys2Proof/Word.lean ====
section
/-! DEFINITION. The machine's two word sizes (spec/00_scope.md R6, R9). -/

namespace Sys2Proof

/-- An 8-bit value, `u8` of spec/00_scope.md R9. -/
abbrev Byte := BitVec 8

/-- A 16-bit value, `u16` of spec/00_scope.md R9: a register pair, SP, PC or a memory address. -/
abbrev Word := BitVec 16

end Sys2Proof
end

