-- ==== Sys2Proof/Machine/Memory.lean ====
section
/-! DEFINITION. The memory array as plain data: the bytes that a write or a load has put into it, by
address. An address that is not listed has been written by nothing (log 6). The canonical form is:
addresses strictly rising, each below 65536 (spec/10_state.md R41). -/

namespace Sys2Proof.Machine

/-- The listed bytes of memory. -/
abbrev Memory := List Host.Cell

/-- The byte listed at an address, or `none` where nothing has been written. -/
def Memory.cell : Memory → Nat → Option Byte
  | [], _ => none
  | (k, v) :: rest, adr => if k = adr then some v else Memory.cell rest adr

/-- The memory with the byte `v` at `adr`, the others as they were; it keeps the canonical form. -/
def Memory.store : Memory → Nat → Byte → Memory
  | [], adr, v => [(adr, v)]
  | (k, w) :: rest, adr, v =>
    if adr < k then (adr, v) :: (k, w) :: rest
    else if adr = k then (adr, v) :: rest
    else (k, w) :: Memory.store rest adr v

/-- The addresses rise strictly, from `low` on, and stay below 65536. -/
def Memory.risesFrom : Nat → Memory → Bool
  | _, [] => true
  | low, (k, _) :: rest => decide (low ≤ k) && decide (k < 65536) && Memory.risesFrom (k + 1) rest

/-- The canonical form of a memory. -/
def Memory.wf (m : Memory) : Bool := Memory.risesFrom 0 m

end Sys2Proof.Machine
end

