-- ==== Sys2Proof/Config.lean ====
section
/-! DEFINITION. What an implementation or a platform fixes (spec/00_scope.md R2, R7) and the free
values: the values the spec leaves to a draw. Each free value is an opaque constant without a body,
so that no proof can learn what it is (logs 6, 7, 8, 11, 17). -/

namespace Sys2Proof

/-- The parameter VARIANT, spec/00_scope.md R2. -/
inductive Variant where
  | i8080
  | i8085
deriving DecidableEq, Repr

/-- What stands behind a memory address: the three kinds of the parameter MemMap, spec/00_scope.md R7. -/
inductive MemKind where
  | ram
  | rom
  | absent
deriving DecidableEq, Repr

/-- One stretch of the memory map: the addresses from `base` up to, and without, `base + size`. -/
structure Region where
  base : Nat
  size : Nat
  kind : MemKind
deriving DecidableEq, Repr

/-- The platform a processor stands in: its variant (R2) and the memory map (R7) as a list of regions
in which the first that holds an address decides; an address of no region is RAM, the spec's default
(D12). Every map from addresses to kinds can be written so (log 2). -/
structure Platform where
  variant : Variant
  map : List Region
deriving DecidableEq, Repr

/-- One event of the input and output trace, spec/20_memory.md R62, R63. -/
inductive IoEvent where
  /-- `IoRead(port) = v`. -/
  | read (port v : Byte)
  /-- `IoWrite(port, v)`. -/
  | write (port v : Byte)
deriving DecidableEq, Repr

/-- FREE VALUE (log 6). The content a RAM byte holds when nothing has written it since reset number
`reset`: "a draw made once" (spec/70_reset_and_hazards.md R301, spec/10_state.md R45). -/
opaque Config.ramAtReset (reset : Nat) (adr : Word) : Byte

/-- FREE VALUE (log 6). The content of a ROM byte that the state does not list: "whatever the platform
put there" (spec/10_state.md R44). -/
opaque Config.romContents (adr : Word) : Byte

/-- FREE VALUE (log 7). What a read of an ABSENT address returns: a draw on every read
(spec/20_memory.md R55). -/
opaque Config.floatingBus (draw : Nat) (adr : Word) : Byte

/-- FREE VALUE (log 8). The oracle `InPort(port, history, choice)` of spec/20_memory.md R62. -/
opaque Config.inPort (port : Byte) (history : List IoEvent) (choice : Nat) : Byte

/-- FREE VALUE (log 11). Bit 5 of the flag byte that PUSH PSW stores on the 8085
(spec/41_transfer_two_bytes.md R125). -/
opaque Config.pswD5 (draw : Nat) : Bool

/-- FREE VALUE (log 11). Bit 1 of the flag byte that PUSH PSW stores on the 8085
(spec/41_transfer_two_bytes.md R125). -/
opaque Config.pswD1 (draw : Nat) : Bool

/-- FREE VALUE (log 17). What reset number `reset`, applied during a run, leaves in the 8-bit register
of code `code` (spec/30_encoding.md R84): unspecified (spec/70_reset_and_hazards.md R301). -/
opaque Config.registerAtReset (reset : Nat) (code : BitVec 3) : Byte

/-- FREE VALUE (log 17). What reset number `reset`, applied during a run, leaves in SP (R301). -/
opaque Config.spAtReset (reset : Nat) : Word

/-- FREE VALUE (log 17). What reset number `reset`, applied during a run, leaves in the flags, as bits
of the byte F (R301). -/
opaque Config.flagsAtReset (reset : Nat) : Byte

end Sys2Proof
end

