-- ==== Sys2Proof/Machine/Platform.lean ====
section
/-! DEFINITION. The memory map of a platform, and the platform that State.reset stands on. -/

namespace Sys2Proof.Machine

/-- The region holds the address. -/
def regionHolds (r : Region) (adr : Nat) : Bool :=
  decide (r.base ≤ adr) && decide (adr < r.base + r.size)

/-- The kind of an address in a list of regions: the first region that holds it decides, and an address
of no region is RAM (spec/00_scope.md R7, default of D12). -/
def kindIn : List Region → Nat → MemKind
  | [], _ => .ram
  | r :: rest, adr => if regionHolds r adr then r.kind else kindIn rest adr

/-- `MemMap(adr)` of spec/00_scope.md R7. -/
def memMap (p : Platform) (adr : Word) : MemKind := kindIn p.map adr.toNat

/-- The platform of State.reset. DESIGN CHOICE (log 1): the 8085, the variant that has every
instruction of the opcode table (spec/00_scope.md R2). The map is the spec's default, all RAM (R7). -/
def platformAtReset : Platform := { variant := .i8085, map := [] }

end Sys2Proof.Machine
end

