-- ==== Sys2Proof/Machine/State.lean ====
section
/-! DEFINITION. The state of the machine (spec/10_state.md), the reasons for which a step gives no next
state, and the state after reset. State is plain data. -/

namespace Sys2Proof.Machine

/-- The seven 8-bit registers (spec/10_state.md R20). -/
structure Regs where
  a : Byte
  b : Byte
  c : Byte
  d : Byte
  e : Byte
  h : Byte
  l : Byte
deriving DecidableEq, Repr

/-- The five flags (spec/10_state.md R30). -/
structure Flags where
  s : Bool
  z : Bool
  ac : Bool
  p : Bool
  cy : Bool
deriving DecidableEq, Repr

/-- The interrupt state that only the 8085 has (spec/10_state.md R39). On the 8080 it is absent: the
model holds it there at its reset values and nothing reads or writes it (log 13). -/
structure Irq85 where
  /-- Mask of RST 5.5, 1 = masked. -/
  m55 : Bool
  /-- Mask of RST 6.5. -/
  m65 : Bool
  /-- Mask of RST 7.5. -/
  m75 : Bool
  /-- Latched request of RST 7.5. -/
  i75 : Bool
  /-- Serial output data latch. -/
  sod : Bool
  /-- INTE as it was before the last TRAP, until the first RIM after it reads it
  (spec/49_control.md R250, spec/60_exceptions.md R281; log 14). -/
  trapInte : Option Bool
deriving DecidableEq, Repr

/-- What the interrupt oracle answers at a boundary (spec/60_exceptions.md R262, R269). -/
inductive IntRequest where
  /-- No request. -/
  | none
  /-- A request with restart number `n`. -/
  | rst (n : BitVec 3)
  /-- A request whose device supplies the opcode byte `op` of another instruction than RST N; the model
  refuses it when it would be accepted (R269; log 16). -/
  | other (op : Byte)
deriving DecidableEq, Repr

/-- What the environment answers for one boundary and the instruction after it: the oracles of
spec/10_state.md R43 (logs 10, 20). -/
structure Inputs where
  /-- The reset input is applied at this boundary (spec/70_reset_and_hazards.md R300). -/
  reset : Bool
  /-- INT on the 8080, INTR on the 8085 (spec/60_exceptions.md R262, R285). -/
  intr : IntRequest
  /-- 8085: TRAP has risen and stayed high (spec/60_exceptions.md R280, R281; log 15). -/
  trap : Bool
  /-- 8085: a rising edge on RST 7.5 since the boundary before (R280). -/
  rst75Edge : Bool
  /-- 8085: the level of RST 6.5 (R280). -/
  rst65 : Bool
  /-- 8085: the level of RST 5.5 (R280). -/
  rst55 : Bool
  /-- 8085: the level of the serial input (spec/49_control.md R250). -/
  sid : Bool
  /-- The byte an IN of this instruction reads; `none` leaves it to the oracle `InPort`, a free value
  (spec/20_memory.md R62; log 8). -/
  portData : Option Byte
deriving DecidableEq, Repr

/-- No input asserted. -/
def Inputs.quiet : Inputs :=
  { reset := false, intr := .none, trap := false, rst75Edge := false, rst65 := false,
    rst55 := false, sid := false, portData := Option.none }

/-- The state of the machine. -/
structure State where
  /-- A, B, C, D, E, H, L (spec/10_state.md R20). -/
  regs : Regs
  /-- S, Z, AC, P, CY (R30). -/
  flags : Flags
  /-- The stack pointer (R24). -/
  sp : Word
  /-- The program counter (R26). -/
  pc : Word
  /-- INTE, interrupts enabled (R36). -/
  inte : Bool
  /-- HALTED (R37). -/
  halted : Bool
  /-- EI_DELAY: the instruction just executed was EI (R38). -/
  eiDelay : Bool
  /-- The 8085's own interrupt state (R39). -/
  irq : Irq85
  /-- Mem (R41): the bytes written so far. -/
  mem : Memory
  /-- MODEL'S OWN: the I/O events so far, in program order (spec/20_memory.md R62, R63; log 9). -/
  io : List IoEvent
  /-- MODEL'S OWN: the platform, which no step changes (spec/00_scope.md R7; logs 1, 2). -/
  platform : Platform
  /-- MODEL'S OWN: the environment's answers for the boundary just passed (log 10). -/
  inputs : Inputs
  /-- MODEL'S OWN: the environment's answers at the boundaries to come; quiet after its end (log 10). -/
  script : List Inputs
  /-- MODEL'S OWN: how many free values have been drawn (log 12). -/
  draws : Nat
  /-- MODEL'S OWN: how many resets there have been during the run (logs 12, 17). -/
  resets : Nat
deriving DecidableEq, Repr

/-- Faults. There is none: no instruction of this machine can raise a trap, fault or abort
(spec/60_exceptions.md R260), and "there is no situation treated as fault" (R298). Nothing raises one,
so a step that faults cannot be written; safe. -/
inductive Fault where
deriving DecidableEq, Repr

/-- Why the model gives a step no meaning. -/
inductive Refusal where
  /-- Raised by an arm of `exec` whose instruction has no meaning yet. No arm raises it now. Safe. -/
  | notModelled (mnemonic : String)
  /-- Raised by the fetch of an opcode byte that has no instruction (spec/30_encoding.md R104), 0x20 and
  0x30 on the 8080 among them (R105), and by RIM and SIM when executed on the 8080. Safe: the model
  stops where silicon goes on (spec/93_implementation_defined.md U1, U2; log 18). -/
  | unassignedOpcode (op : Byte)
  /-- Raised at a boundary where an interrupt is accepted whose device supplies an instruction other
  than RST N (spec/60_exceptions.md R269). Safe: the model stops where silicon goes on (log 16). -/
  | injectedInstruction (op : Byte)
deriving DecidableEq, Repr

/-- The 8085's interrupt state after reset: all masked, no latch, SOD 0 (spec/10_state.md R44). -/
def irqAtReset : Irq85 :=
  { m55 := true, m65 := true, m75 := true, i75 := false, sod := false, trapInte := none }

/-- The state after power-on reset on a platform, with given values in what reset leaves unspecified:
the parameter `ResetRegs` of spec/00_scope.md R7. The rest is spec/10_state.md R44. -/
def State.powerOn (p : Platform) (regs : Regs) (flags : Flags) (sp : Word) : State :=
  { regs := regs, flags := flags, sp := sp, pc := 0x0000,
    inte := false, halted := false, eiDelay := false, irq := irqAtReset,
    mem := [], io := [], platform := p, inputs := Inputs.quiet, script := [],
    draws := 0, resets := 0 }

/-- The machine right after reset (spec/10_state.md R44, spec/70_reset_and_hazards.md R301). The
registers, SP and the flags are unspecified there; the model names the value 0 (DESIGN CHOICE, logs 3
to 5). -/
def State.reset : State :=
  State.powerOn platformAtReset
    { a := 0, b := 0, c := 0, d := 0, e := 0, h := 0, l := 0 }
    { s := false, z := false, ac := false, p := false, cy := false } 0

end Sys2Proof.Machine
end

