-- ==== Sys2Proof/Syntax.lean ====
section
/-! DEFINITION. The instructions, one constructor for each instruction form of spec/opcode_table.json.
The operand types hold exactly the operands the encoding has (spec/30_encoding.md R84 to R86, R90), so
that what remains to check is the processor variant (WellFormed.lean). -/

namespace Sys2Proof

/-- The seven 8-bit registers (spec/10_state.md R20), in the order of their codes (R84). -/
inductive Reg where
  | b | c | d | e | h | l | a
deriving DecidableEq, Repr

/-- A 16-bit operand in the SP form of the pair code: LXI, INX, DCX, DAD (spec/30_encoding.md R85). -/
inductive RegPair where
  | bc | de | hl | sp
deriving DecidableEq, Repr

/-- A register pair that PUSH and POP take (R85); the fourth code is PSW, an instruction of its own. -/
inductive StackPair where
  | bc | de | hl
deriving DecidableEq, Repr

/-- A register pair that addresses memory in STAX and LDAX (R85). -/
inductive IndexPair where
  | bc | de
deriving DecidableEq, Repr

/-- The eight branch conditions (spec/47_branch.md R202), in the order of their codes (R86). -/
inductive Cond where
  | nz | z | nc | c | po | pe | p | m
deriving DecidableEq, Repr

/-- The instructions. The group comments name the file of spec/ that gives the meaning. -/
inductive Instr where
  -- spec/40_transfer_one_byte.md
  | movRR (dst src : Reg)
  | movRM (dst : Reg)
  | movMR (src : Reg)
  | mviR (dst : Reg) (d8 : Byte)
  | mviM (d8 : Byte)
  | stax (rp : IndexPair)
  | ldax (rp : IndexPair)
  | sta (adr : Word)
  | lda (adr : Word)
  -- spec/41_transfer_two_bytes.md
  | lxi (rp : RegPair) (d16 : Word)
  | shld (adr : Word)
  | lhld (adr : Word)
  | pushRP (rp : StackPair)
  | pushPsw
  | popRP (rp : StackPair)
  | popPsw
  | sphl
  -- spec/42_exchange.md
  | xchg
  | xthl
  -- spec/43_input_output.md
  | inPort (port : Byte)
  | outPort (port : Byte)
  -- spec/44_alu_one_operand.md
  | cmc
  | stc
  | cma
  | inrR (r : Reg)
  | inrM
  | dcrR (r : Reg)
  | dcrM
  | inx (rp : RegPair)
  | dcx (rp : RegPair)
  | daa
  -- spec/45_alu_two_operands.md
  | addR (src : Reg)
  | addM
  | adcR (src : Reg)
  | adcM
  | subR (src : Reg)
  | subM
  | sbbR (src : Reg)
  | sbbM
  | anaR (src : Reg)
  | anaM
  | xraR (src : Reg)
  | xraM
  | oraR (src : Reg)
  | oraM
  | cmpR (src : Reg)
  | cmpM
  | adi (d8 : Byte)
  | aci (d8 : Byte)
  | sui (d8 : Byte)
  | sbi (d8 : Byte)
  | ani (d8 : Byte)
  | xri (d8 : Byte)
  | ori (d8 : Byte)
  | cpi (d8 : Byte)
  -- spec/46_rotate_and_dad.md
  | rlc
  | rrc
  | ral
  | rar
  | dad (rp : RegPair)
  -- spec/47_branch.md
  | pchl
  | jmp (adr : Word)
  | jnz (adr : Word)
  | jz (adr : Word)
  | jnc (adr : Word)
  | jc (adr : Word)
  | jpo (adr : Word)
  | jpe (adr : Word)
  | jp (adr : Word)
  | jm (adr : Word)
  -- spec/48_call_return.md
  | call (adr : Word)
  | cnz (adr : Word)
  | cz (adr : Word)
  | cnc (adr : Word)
  | cc (adr : Word)
  | cpo (adr : Word)
  | cpe (adr : Word)
  | cp (adr : Word)
  | cm (adr : Word)
  | rst (n : BitVec 3)
  | ret
  | rnz
  | rz
  | rnc
  | rc
  | rpo
  | rpe
  | rp
  | rm
  -- spec/49_control.md
  | ei
  | di
  | hlt
  | nop
  | rim
  | sim
deriving DecidableEq, Repr

end Sys2Proof
end

