-- ==== Sys2Proof/Machine/Flags.lean ====
section
/-! DEFINITION. Every flag computation of the spec: the helpers of spec/00_scope.md R11, AC after a
logical AND (spec/45_alu_two_operands.md R172), the byte F (spec/10_state.md R33), the branch
conditions (spec/47_branch.md R202) and the decimal adjustment (spec/44_alu_one_operand.md R149). -/

namespace Sys2Proof.Machine

/-- A result with the carry out of bit 7 (or the borrow) and the carry out of bit 3. -/
structure AluResult where
  value : Byte
  cy : Bool
  ac : Bool
deriving DecidableEq, Repr

/-- `parity8(v)`: `v` has an even number of 1 bits (R11). -/
def parity8 (v : Byte) : Bool :=
  ((v.getLsbD 0).toNat + (v.getLsbD 1).toNat + (v.getLsbD 2).toNat + (v.getLsbD 3).toNat +
    (v.getLsbD 4).toNat + (v.getLsbD 5).toNat + (v.getLsbD 6).toNat + (v.getLsbD 7).toNat) % 2 == 0

/-- `add8(a, b, c)` (R11): the 9-bit sum, its low 8 bits, its bit 8, and the carry out of bit 3. -/
def add8 (a b : Byte) (c : Bool) : AluResult :=
  let s9 := a.setWidth 9 + b.setWidth 9 + (BitVec.ofBool c).setWidth 9
  let s5 := (a.extractLsb' 0 4).setWidth 5 + (b.extractLsb' 0 4).setWidth 5 + (BitVec.ofBool c).setWidth 5
  { value := s9.setWidth 8, cy := s9.getLsbD 8, ac := s5.getLsbD 4 }

/-- `sub8(a, b, bw)` (R11): the addition of the complement; CY is the borrow. -/
def sub8 (a b : Byte) (bw : Bool) : AluResult :=
  let r := add8 a (~~~b) (!bw)
  { value := r.value, cy := !r.cy, ac := r.ac }

/-- `set_SZP(v)` (R11): S, Z and P from the result, AC and CY as they were. -/
def setSZP (f : Flags) (v : Byte) : Flags :=
  { f with s := v.getLsbD 7, z := v == 0, p := parity8 v }

/-- The flags of an operation of class ALL (spec/10_state.md R34). -/
def flagsAll (f : Flags) (r : AluResult) : Flags :=
  { setSZP f r.value with ac := r.ac, cy := r.cy }

/-- The flags of an operation of class ALL_BUT_CY (R34). -/
def flagsAllButCarry (f : Flags) (r : AluResult) : Flags :=
  { setSZP f r.value with ac := r.ac }

/-- `and_ac(a, v)` (spec/45_alu_two_operands.md R172). -/
def andAc (v : Variant) (a b : Byte) : Bool :=
  match v with
  | .i8080 => (a ||| b).getLsbD 3
  | .i8085 => true

/-- ANA: CY is 0, AC by R172 (spec/45_alu_two_operands.md R167). -/
def and8 (v : Variant) (a b : Byte) : AluResult := { value := a &&& b, cy := false, ac := andAc v a b }

/-- XRA: CY and AC are 0 (R170). -/
def xor8 (a b : Byte) : AluResult := { value := a ^^^ b, cy := false, ac := false }

/-- ORA: CY and AC are 0 (R174). -/
def or8 (a b : Byte) : AluResult := { value := a ||| b, cy := false, ac := false }

/-- DAA (spec/44_alu_one_operand.md R149): the one addition that both adjustments make up. -/
def daa8 (a : Byte) (acIn cyIn : Bool) : AluResult :=
  let lo := (a.extractLsb' 0 4).toNat
  let hi := (a.extractLsb' 4 4).toNat
  let low6 := decide (lo > 9) || acIn
  let high6 := decide (hi > 9) || cyIn || (decide (hi ≥ 9) && decide (lo > 9))
  let corr : Byte := (if low6 then 0x06 else 0x00) + (if high6 then 0x60 else 0x00)
  let r := add8 a corr false
  { value := r.value, cy := cyIn || high6, ac := r.ac }

/-- The byte `F = S : Z : D5 : AC : 0 : P : D1 : CY` (spec/10_state.md R33). -/
def flagByte (f : Flags) (d5 d1 : Bool) : Byte :=
  BitVec.ofBool f.s ++ BitVec.ofBool f.z ++ BitVec.ofBool d5 ++ BitVec.ofBool f.ac ++
    BitVec.ofBool false ++ BitVec.ofBool f.p ++ BitVec.ofBool d1 ++ BitVec.ofBool f.cy

/-- The flags that POP PSW takes from a byte: bits 7, 6, 4, 2, 0; bits 5, 3, 1 are ignored
(spec/41_transfer_two_bytes.md R127). -/
def flagsOfByte (f : Byte) : Flags :=
  { s := f.getLsbD 7, z := f.getLsbD 6, ac := f.getLsbD 4, p := f.getLsbD 2, cy := f.getLsbD 0 }

/-- `cond(ccc)` (spec/47_branch.md R202). -/
def condHolds (f : Flags) : Cond → Bool
  | .nz => !f.z
  | .z => f.z
  | .nc => !f.cy
  | .c => f.cy
  | .po => !f.p
  | .pe => f.p
  | .p => !f.s
  | .m => f.s

end Sys2Proof.Machine
end

