-- ==== Sys2Proof/WellFormed.lean ====
section
/-! DEFINITION. Which instructions a processor variant has. The operand types of Syntax.lean admit only
operands that the encoding has, so the one check left is the footnote on RIM and SIM. -/

namespace Sys2Proof

/-- The instruction exists on `v`: RIM and SIM only on the 8085, every other on both
(spec/00_scope.md R2, spec/30_encoding.md R105). -/
def Instr.wellFormed (v : Variant) : Instr → Bool
  | .rim => decide (v = .i8085)
  | .sim => decide (v = .i8085)
  | _ => true

end Sys2Proof
end

