-- ==== Sys2Proof/Decode.lean ====
section
/-! DEFINITION. Decoding and encoding (spec/30_encoding.md). The decoder takes the opcode byte apart
into the fields of R82; the encoder puts the patterns of R83 together. Both are total; the decoder
rejects the unassigned bytes by name. -/

namespace Sys2Proof

/-- `hi:lo`, the byte order of a 16-bit operand and of a register pair (spec/00_scope.md R10). -/
def joinBytes (hi lo : Byte) : Word := hi ++ lo

/-- Bits 15:8 of a 16-bit value. -/
def highByte (w : Word) : Byte := w.extractLsb' 8 8

/-- Bits 7:0 of a 16-bit value. -/
def lowByte (w : Word) : Byte := w.extractLsb' 0 8

/-! ### Codes of the operands (R84 to R86) -/

/-- The 3-bit code of a register (R84); code 110 is the memory operand M. -/
def Reg.code : Reg → BitVec 3
  | .b => 0b000 | .c => 0b001 | .d => 0b010 | .e => 0b011
  | .h => 0b100 | .l => 0b101 | .a => 0b111

/-- The operand of a 3-bit register code (R84): a register, or `none` for M. -/
def regOfCode (code : BitVec 3) : Option Reg :=
  match code.toNat with
  | 0 => some .b
  | 1 => some .c
  | 2 => some .d
  | 3 => some .e
  | 4 => some .h
  | 5 => some .l
  | 6 => none
  | _ => some .a

/-- The 2-bit code of a pair, SP form (R85). -/
def RegPair.code : RegPair → BitVec 2
  | .bc => 0b00 | .de => 0b01 | .hl => 0b10 | .sp => 0b11

/-- The pair of a 2-bit code, SP form (R85). -/
def pairOfCode (code : BitVec 2) : RegPair :=
  match code.toNat with
  | 0 => .bc
  | 1 => .de
  | 2 => .hl
  | _ => .sp

/-- The 2-bit code of a pair of PUSH and POP (R85). -/
def StackPair.code : StackPair → BitVec 2
  | .bc => 0b00 | .de => 0b01 | .hl => 0b10

/-- The operand of a 2-bit pair code, PSW form (R85): a pair, or `none` for PSW. -/
def stackPairOfCode (code : BitVec 2) : Option StackPair :=
  match code.toNat with
  | 0 => some .bc
  | 1 => some .de
  | 2 => some .hl
  | _ => none

/-- The 1-bit code of a pair of STAX and LDAX (R85). -/
def IndexPair.code : IndexPair → BitVec 1
  | .bc => 0 | .de => 1

/-- The 3-bit code of a condition (R86). -/
def Cond.code : Cond → BitVec 3
  | .nz => 0b000 | .z => 0b001 | .nc => 0b010 | .c => 0b011
  | .po => 0b100 | .pe => 0b101 | .p => 0b110 | .m => 0b111

/-! ### Decoding -/

/-- Why a byte decodes to no instruction. -/
inductive Reject where
  /-- The opcode byte has no instruction (R104), or is 0x20 or 0x30 on the 8080 (R105). -/
  | unassigned (op : Byte)
deriving DecidableEq, Repr

/-- Group 00 (R82): columns 000 to 111 of rows 0 to 3. -/
def decodeGroup00 (v : Variant) (op b2 b3 : Byte) : Except Reject Instr :=
  let y := op.extractLsb' 3 3
  let pp := op.extractLsb' 4 2
  let q := op.getLsbD 3
  match (op.extractLsb' 0 3).toNat with
  | 0 => match y.toNat, v with
    | 0, _ => .ok .nop
    | 4, .i8085 => .ok .rim
    | 6, .i8085 => .ok .sim
    | _, _ => .error (.unassigned op)
  | 1 => if q then .ok (.dad (pairOfCode pp)) else .ok (.lxi (pairOfCode pp) (joinBytes b3 b2))
  | 2 => match y.toNat with
    | 0 => .ok (.stax .bc)
    | 1 => .ok (.ldax .bc)
    | 2 => .ok (.stax .de)
    | 3 => .ok (.ldax .de)
    | 4 => .ok (.shld (joinBytes b3 b2))
    | 5 => .ok (.lhld (joinBytes b3 b2))
    | 6 => .ok (.sta (joinBytes b3 b2))
    | _ => .ok (.lda (joinBytes b3 b2))
  | 3 => if q then .ok (.dcx (pairOfCode pp)) else .ok (.inx (pairOfCode pp))
  | 4 => match regOfCode y with
    | some r => .ok (.inrR r)
    | none => .ok .inrM
  | 5 => match regOfCode y with
    | some r => .ok (.dcrR r)
    | none => .ok .dcrM
  | 6 => match regOfCode y with
    | some r => .ok (.mviR r b2)
    | none => .ok (.mviM b2)
  | _ => match y.toNat with
    | 0 => .ok .rlc
    | 1 => .ok .rrc
    | 2 => .ok .ral
    | 3 => .ok .rar
    | 4 => .ok .daa
    | 5 => .ok .cma
    | 6 => .ok .stc
    | _ => .ok .cmc

/-- Group 01 (R82): MOV, and HLT in the place of "MOV M, M" (R106). -/
def decodeGroup01 (op : Byte) : Except Reject Instr :=
  match regOfCode (op.extractLsb' 3 3), regOfCode (op.extractLsb' 0 3) with
  | some dst, some src => .ok (.movRR dst src)
  | some dst, none => .ok (.movRM dst)
  | none, some src => .ok (.movMR src)
  | none, none => .ok .hlt

/-- Group 10 (R82, R87): two-operand arithmetic and logic with a register or M. -/
def decodeGroup10 (op : Byte) : Except Reject Instr :=
  match (op.extractLsb' 3 3).toNat, regOfCode (op.extractLsb' 0 3) with
  | 0, some s => .ok (.addR s)
  | 0, none => .ok .addM
  | 1, some s => .ok (.adcR s)
  | 1, none => .ok .adcM
  | 2, some s => .ok (.subR s)
  | 2, none => .ok .subM
  | 3, some s => .ok (.sbbR s)
  | 3, none => .ok .sbbM
  | 4, some s => .ok (.anaR s)
  | 4, none => .ok .anaM
  | 5, some s => .ok (.xraR s)
  | 5, none => .ok .xraM
  | 6, some s => .ok (.oraR s)
  | 6, none => .ok .oraM
  | _, some s => .ok (.cmpR s)
  | _, none => .ok .cmpM

/-- Jcc by its condition code (R86). -/
def decodeJcc (ccc : BitVec 3) (adr : Word) : Instr :=
  match ccc.toNat with
  | 0 => .jnz adr
  | 1 => .jz adr
  | 2 => .jnc adr
  | 3 => .jc adr
  | 4 => .jpo adr
  | 5 => .jpe adr
  | 6 => .jp adr
  | _ => .jm adr

/-- Ccc by its condition code (R86). -/
def decodeCcc (ccc : BitVec 3) (adr : Word) : Instr :=
  match ccc.toNat with
  | 0 => .cnz adr
  | 1 => .cz adr
  | 2 => .cnc adr
  | 3 => .cc adr
  | 4 => .cpo adr
  | 5 => .cpe adr
  | 6 => .cp adr
  | _ => .cm adr

/-- Rcc by its condition code (R86). -/
def decodeRcc (ccc : BitVec 3) : Instr :=
  match ccc.toNat with
  | 0 => .rnz
  | 1 => .rz
  | 2 => .rnc
  | 3 => .rc
  | 4 => .rpo
  | 5 => .rpe
  | 6 => .rp
  | _ => .rm

/-- The immediate form of an arithmetic or logic operation by its code (R87). -/
def decodeImmediate (ooo : BitVec 3) (d8 : Byte) : Instr :=
  match ooo.toNat with
  | 0 => .adi d8
  | 1 => .aci d8
  | 2 => .sui d8
  | 3 => .sbi d8
  | 4 => .ani d8
  | 5 => .xri d8
  | 6 => .ori d8
  | _ => .cpi d8

/-- Group 11 (R82): branches, calls, returns, stack, I/O, immediates, control. -/
def decodeGroup11 (op b2 b3 : Byte) : Except Reject Instr :=
  let y := op.extractLsb' 3 3
  let pp := op.extractLsb' 4 2
  let q := op.getLsbD 3
  match (op.extractLsb' 0 3).toNat with
  | 0 => .ok (decodeRcc y)
  | 1 => match q, stackPairOfCode pp, pp.toNat with
    | false, some rp, _ => .ok (.popRP rp)
    | false, none, _ => .ok .popPsw
    | true, _, 0 => .ok .ret
    | true, _, 2 => .ok .pchl
    | true, _, 3 => .ok .sphl
    | true, _, _ => .error (.unassigned op)
  | 2 => .ok (decodeJcc y (joinBytes b3 b2))
  | 3 => match y.toNat with
    | 0 => .ok (.jmp (joinBytes b3 b2))
    | 1 => .error (.unassigned op)
    | 2 => .ok (.outPort b2)
    | 3 => .ok (.inPort b2)
    | 4 => .ok .xthl
    | 5 => .ok .xchg
    | 6 => .ok .di
    | _ => .ok .ei
  | 4 => .ok (decodeCcc y (joinBytes b3 b2))
  | 5 => match q, stackPairOfCode pp, pp.toNat with
    | false, some rp, _ => .ok (.pushRP rp)
    | false, none, _ => .ok .pushPsw
    | true, _, 0 => .ok (.call (joinBytes b3 b2))
    | true, _, _ => .error (.unassigned op)
  | 6 => .ok (decodeImmediate y b2)
  | _ => .ok (.rst y)

/-- The instruction of the opcode byte `op` with the operand bytes `b2`, `b3` (R96). The operand bytes
never influence which instruction it is; bytes past its length are not looked at. -/
def decode (v : Variant) (op b2 b3 : Byte) : Except Reject Instr :=
  match (op.extractLsb' 6 2).toNat with
  | 0 => decodeGroup00 v op b2 b3
  | 1 => decodeGroup01 op
  | 2 => decodeGroup10 op
  | _ => decodeGroup11 op b2 b3

/-- The opcode bytes of two-byte instructions, format F2 (R81). -/
def twoByteOpcodes : List Byte :=
  [0x06, 0x0E, 0x16, 0x1E, 0x26, 0x2E, 0x36, 0x3E,
   0xC6, 0xCE, 0xD6, 0xDE, 0xE6, 0xEE, 0xF6, 0xFE, 0xD3, 0xDB]

/-- The opcode bytes of three-byte instructions, format F3 (R81). -/
def threeByteOpcodes : List Byte :=
  [0x01, 0x11, 0x21, 0x31, 0x22, 0x2A, 0x32, 0x3A,
   0xC2, 0xCA, 0xD2, 0xDA, 0xE2, 0xEA, 0xF2, 0xFA, 0xC3,
   0xC4, 0xCC, 0xD4, 0xDC, 0xE4, 0xEC, 0xF4, 0xFC, 0xCD]

/-- The length in bytes that the opcode byte alone tells (R80, R81). An unassigned byte has no length;
the fetch reads nothing after it. -/
def opcodeLength (op : Byte) : Nat :=
  if threeByteOpcodes.contains op then 3
  else if twoByteOpcodes.contains op then 2
  else 1

/-! ### Encoding -/

/-- Format F1 (R80). -/
def encodeF1 (op : Byte) : List Byte := [op]

/-- Format F2 (R80): the operand byte follows the opcode byte. -/
def encodeF2 (op b2 : Byte) : List Byte := [op, b2]

/-- Format F3 (R80, R88): the low byte of the operand at `pc+1`, the high byte at `pc+2`. -/
def encodeF3 (op : Byte) (w : Word) : List Byte := [op, lowByte w, highByte w]

/-- The pattern `01dddsss` (R83), `ddd` and `sss` any codes. -/
def opcodeMov (ddd sss : BitVec 3) : Byte := 0b01#2 ++ ddd ++ sss

/-- The pattern `00dddzzz` (R83): INR, DCR, MVI and the column-111 specials. -/
def opcodeLow (ddd zzz : BitVec 3) : Byte := 0b00#2 ++ ddd ++ zzz

/-- The pattern `00ppqzzz` (R83): LXI, DAD, INX, DCX. -/
def opcodeLowPair (pp : BitVec 2) (qzzz : BitVec 4) : Byte := 0b00#2 ++ pp ++ qzzz

/-- The pattern `10ooosss` (R83, R87). -/
def opcodeAlu (ooo sss : BitVec 3) : Byte := 0b10#2 ++ ooo ++ sss

/-- The pattern `11cccxxx` (R83): Rcc, Jcc, Ccc, the immediate operations, RST. -/
def opcodeHigh (ccc zzz : BitVec 3) : Byte := 0b11#2 ++ ccc ++ zzz

/-- The pattern `11ppqzzz` (R83): PUSH and POP. -/
def opcodeHighPair (pp : BitVec 2) (qzzz : BitVec 4) : Byte := 0b11#2 ++ pp ++ qzzz

/-- The register code that stands for the memory operand M (R84). -/
def codeM : BitVec 3 := 0b110

/-- The bytes of an instruction, first byte first: the patterns of R83 with the codes of R84 to R90. -/
def encode : Instr → List Byte
  | .movRR dst src => encodeF1 (opcodeMov dst.code src.code)
  | .movRM dst => encodeF1 (opcodeMov dst.code codeM)
  | .movMR src => encodeF1 (opcodeMov codeM src.code)
  | .mviR dst d8 => encodeF2 (opcodeLow dst.code 0b110) d8
  | .mviM d8 => encodeF2 (opcodeLow codeM 0b110) d8
  | .stax rp => encodeF1 (0b000#3 ++ rp.code ++ 0b0010#4)
  | .ldax rp => encodeF1 (0b000#3 ++ rp.code ++ 0b1010#4)
  | .sta adr => encodeF3 0b00110010 adr
  | .lda adr => encodeF3 0b00111010 adr
  | .lxi rp d16 => encodeF3 (opcodeLowPair rp.code 0b0001) d16
  | .shld adr => encodeF3 0b00100010 adr
  | .lhld adr => encodeF3 0b00101010 adr
  | .pushRP rp => encodeF1 (opcodeHighPair rp.code 0b0101)
  | .pushPsw => encodeF1 (opcodeHighPair 0b11 0b0101)
  | .popRP rp => encodeF1 (opcodeHighPair rp.code 0b0001)
  | .popPsw => encodeF1 (opcodeHighPair 0b11 0b0001)
  | .sphl => encodeF1 0b11111001
  | .xchg => encodeF1 0b11101011
  | .xthl => encodeF1 0b11100011
  | .inPort port => encodeF2 0b11011011 port
  | .outPort port => encodeF2 0b11010011 port
  | .cmc => encodeF1 0b00111111
  | .stc => encodeF1 0b00110111
  | .cma => encodeF1 0b00101111
  | .inrR r => encodeF1 (opcodeLow r.code 0b100)
  | .inrM => encodeF1 (opcodeLow codeM 0b100)
  | .dcrR r => encodeF1 (opcodeLow r.code 0b101)
  | .dcrM => encodeF1 (opcodeLow codeM 0b101)
  | .inx rp => encodeF1 (opcodeLowPair rp.code 0b0011)
  | .dcx rp => encodeF1 (opcodeLowPair rp.code 0b1011)
  | .daa => encodeF1 0b00100111
  | .addR s => encodeF1 (opcodeAlu 0b000 s.code)
  | .addM => encodeF1 (opcodeAlu 0b000 codeM)
  | .adcR s => encodeF1 (opcodeAlu 0b001 s.code)
  | .adcM => encodeF1 (opcodeAlu 0b001 codeM)
  | .subR s => encodeF1 (opcodeAlu 0b010 s.code)
  | .subM => encodeF1 (opcodeAlu 0b010 codeM)
  | .sbbR s => encodeF1 (opcodeAlu 0b011 s.code)
  | .sbbM => encodeF1 (opcodeAlu 0b011 codeM)
  | .anaR s => encodeF1 (opcodeAlu 0b100 s.code)
  | .anaM => encodeF1 (opcodeAlu 0b100 codeM)
  | .xraR s => encodeF1 (opcodeAlu 0b101 s.code)
  | .xraM => encodeF1 (opcodeAlu 0b101 codeM)
  | .oraR s => encodeF1 (opcodeAlu 0b110 s.code)
  | .oraM => encodeF1 (opcodeAlu 0b110 codeM)
  | .cmpR s => encodeF1 (opcodeAlu 0b111 s.code)
  | .cmpM => encodeF1 (opcodeAlu 0b111 codeM)
  | .adi d8 => encodeF2 (opcodeHigh 0b000 0b110) d8
  | .aci d8 => encodeF2 (opcodeHigh 0b001 0b110) d8
  | .sui d8 => encodeF2 (opcodeHigh 0b010 0b110) d8
  | .sbi d8 => encodeF2 (opcodeHigh 0b011 0b110) d8
  | .ani d8 => encodeF2 (opcodeHigh 0b100 0b110) d8
  | .xri d8 => encodeF2 (opcodeHigh 0b101 0b110) d8
  | .ori d8 => encodeF2 (opcodeHigh 0b110 0b110) d8
  | .cpi d8 => encodeF2 (opcodeHigh 0b111 0b110) d8
  | .rlc => encodeF1 0b00000111
  | .rrc => encodeF1 0b00001111
  | .ral => encodeF1 0b00010111
  | .rar => encodeF1 0b00011111
  | .dad rp => encodeF1 (opcodeLowPair rp.code 0b1001)
  | .pchl => encodeF1 0b11101001
  | .jmp adr => encodeF3 0b11000011 adr
  | .jnz adr => encodeF3 (opcodeHigh Cond.nz.code 0b010) adr
  | .jz adr => encodeF3 (opcodeHigh Cond.z.code 0b010) adr
  | .jnc adr => encodeF3 (opcodeHigh Cond.nc.code 0b010) adr
  | .jc adr => encodeF3 (opcodeHigh Cond.c.code 0b010) adr
  | .jpo adr => encodeF3 (opcodeHigh Cond.po.code 0b010) adr
  | .jpe adr => encodeF3 (opcodeHigh Cond.pe.code 0b010) adr
  | .jp adr => encodeF3 (opcodeHigh Cond.p.code 0b010) adr
  | .jm adr => encodeF3 (opcodeHigh Cond.m.code 0b010) adr
  | .call adr => encodeF3 0b11001101 adr
  | .cnz adr => encodeF3 (opcodeHigh Cond.nz.code 0b100) adr
  | .cz adr => encodeF3 (opcodeHigh Cond.z.code 0b100) adr
  | .cnc adr => encodeF3 (opcodeHigh Cond.nc.code 0b100) adr
  | .cc adr => encodeF3 (opcodeHigh Cond.c.code 0b100) adr
  | .cpo adr => encodeF3 (opcodeHigh Cond.po.code 0b100) adr
  | .cpe adr => encodeF3 (opcodeHigh Cond.pe.code 0b100) adr
  | .cp adr => encodeF3 (opcodeHigh Cond.p.code 0b100) adr
  | .cm adr => encodeF3 (opcodeHigh Cond.m.code 0b100) adr
  | .rst n => encodeF1 (opcodeHigh n 0b111)
  | .ret => encodeF1 0b11001001
  | .rnz => encodeF1 (opcodeHigh Cond.nz.code 0b000)
  | .rz => encodeF1 (opcodeHigh Cond.z.code 0b000)
  | .rnc => encodeF1 (opcodeHigh Cond.nc.code 0b000)
  | .rc => encodeF1 (opcodeHigh Cond.c.code 0b000)
  | .rpo => encodeF1 (opcodeHigh Cond.po.code 0b000)
  | .rpe => encodeF1 (opcodeHigh Cond.pe.code 0b000)
  | .rp => encodeF1 (opcodeHigh Cond.p.code 0b000)
  | .rm => encodeF1 (opcodeHigh Cond.m.code 0b000)
  | .ei => encodeF1 0b11111011
  | .di => encodeF1 0b11110011
  | .hlt => encodeF1 0b01110110
  | .nop => encodeF1 0b00000000
  | .rim => encodeF1 0b00100000
  | .sim => encodeF1 0b00110000

/-! ### The opcode table's words -/

/-- Byte number `k` of an instruction whose bits, numbered as spec/opcode_table.json numbers them, are
the lowest `nbits` bits of `w`; every bit above is 0. -/
def tableByte (nbits w k : Nat) : Byte := BitVec.ofNat 8 ((w % 2 ^ nbits) >>> (8 * k))

/-- The instruction the decoder reads from a word of the opcode table, on the variant that has every
row of it, the 8085. -/
def decodeTableWord (nbits w : Nat) : Option Instr :=
  match decode .i8085 (tableByte nbits w 0) (tableByte nbits w 1) (tableByte nbits w 2) with
  | .ok i => some i
  | .error _ => none

end Sys2Proof
end

