-- ==== Sys2Proof/Machine/Ops.lean ====
section
/-! DEFINITION. The named operations on registers, memory, ports and the stack that every meaning is
made of (spec/00_scope.md R10, spec/20_memory.md), and interrupt entry and return. -/

namespace Sys2Proof.Machine

/-! ### Registers (spec/10_state.md R20, R21) -/

/-- `x[i]` read (spec/00_scope.md R10). -/
def State.reg (s : State) : Reg → Byte
  | .a => s.regs.a
  | .b => s.regs.b
  | .c => s.regs.c
  | .d => s.regs.d
  | .e => s.regs.e
  | .h => s.regs.h
  | .l => s.regs.l

/-- `x[i] <- v` (spec/00_scope.md R10). -/
def State.setReg (s : State) (r : Reg) (v : Byte) : State :=
  match r with
  | .a => { s with regs := { s.regs with a := v } }
  | .b => { s with regs := { s.regs with b := v } }
  | .c => { s with regs := { s.regs with c := v } }
  | .d => { s with regs := { s.regs with d := v } }
  | .e => { s with regs := { s.regs with e := v } }
  | .h => { s with regs := { s.regs with h := v } }
  | .l => { s with regs := { s.regs with l := v } }

/-- BC = B:C (spec/10_state.md R21). -/
def State.bc (s : State) : Word := joinBytes s.regs.b s.regs.c

/-- DE = D:E (R21). -/
def State.de (s : State) : Word := joinBytes s.regs.d s.regs.e

/-- HL = H:L (R21). -/
def State.hl (s : State) : Word := joinBytes s.regs.h s.regs.l

/-- `BC <- v` (R21). -/
def State.setBC (s : State) (v : Word) : State :=
  { s with regs := { s.regs with b := highByte v, c := lowByte v } }

/-- `DE <- v` (R21). -/
def State.setDE (s : State) (v : Word) : State :=
  { s with regs := { s.regs with d := highByte v, e := lowByte v } }

/-- `HL <- v` (R21). -/
def State.setHL (s : State) (v : Word) : State :=
  { s with regs := { s.regs with h := highByte v, l := lowByte v } }

/-- `SP <- v` (R24). -/
def State.setSP (s : State) (v : Word) : State := { s with sp := v }

/-- The flags become `f`. -/
def State.setFlags (s : State) (f : Flags) : State := { s with flags := f }

/-- CY becomes `c`, the other flags as they were: the class CY_ONLY of spec/10_state.md R34. -/
def State.setCarry (s : State) (c : Bool) : State := { s with flags := { s.flags with cy := c } }

/-! ### The end of an instruction (spec/10_state.md R27, spec/60_exceptions.md R267) -/

/-- The instruction ends with `pc <- target`; completing any instruction clears EI_DELAY (R267; EI sets
it again). -/
def State.jumpTo (s : State) (target : Word) : State := { s with pc := target, eiDelay := false }

/-- The instruction ends with `pc <- next`, `next = pc + len` modulo 2^16 (R27, R29). -/
def State.advance (s : State) (len : Word) : State := s.jumpTo (s.pc + len)

/-! ### Memory (spec/20_memory.md section 3) -/

/-- What stands behind the address. -/
def State.kindAt (s : State) (adr : Word) : MemKind := memMap s.platform adr

/-- `Mem(adr)`: the byte written there, else the content the byte has had since reset, a free value
(spec/10_state.md R44, R45; log 6). -/
def State.content (s : State) (adr : Word) : Byte :=
  match s.mem.cell adr.toNat with
  | some v => v
  | none =>
    match s.kindAt adr with
    | .rom => Config.romContents adr
    | _ => Config.ramAtReset s.resets adr

/-- `MemRead(adr, 1)` (R55): the content, or, at an ABSENT address, a fresh free value. -/
def State.memRead (s : State) (adr : Word) : Byte × State :=
  match s.kindAt adr with
  | .absent => (Config.floatingBus s.draws adr, { s with draws := s.draws + 1 })
  | _ => (s.content adr, s)

/-- `MemWrite(adr, 1, v)` (R56): RAM takes the byte, ROM and ABSENT drop it. -/
def State.memWrite (s : State) (adr : Word) (v : Byte) : State :=
  match s.kindAt adr with
  | .ram => { s with mem := s.mem.store adr.toNat v }
  | _ => s

/-- `MemRead16(adr)` (R58): the low byte first, the address of the high byte modulo 2^16 (R59). -/
def State.memRead16 (s : State) (adr : Word) : Word × State :=
  let lo := s.memRead adr
  let hi := lo.2.memRead (adr + 1)
  (joinBytes hi.1 lo.1, hi.2)

/-- The two-byte store of R58: the low byte at `adr` first, then the high byte at `adr + 1`. -/
def State.memWrite16 (s : State) (adr : Word) (v : Word) : State :=
  (s.memWrite adr (lowByte v)).memWrite (adr + 1) (highByte v)

/-- `push16(v)` (R60): the high byte at `SP-1`, the low byte at `SP-2`, then `SP <- SP-2`. -/
def State.push16 (s : State) (v : Word) : State :=
  ((s.memWrite (s.sp - 1) (highByte v)).memWrite (s.sp - 2) (lowByte v)).setSP (s.sp - 2)

/-- `pop16()` (R61): the low byte from `SP`, the high byte from `SP+1`, then `SP <- SP+2`. -/
def State.pop16 (s : State) : Word × State :=
  let w := s.memRead16 s.sp
  (w.1, w.2.setSP (s.sp + 2))

/-! ### Ports (spec/20_memory.md R62, R63) -/

/-- `IoRead(port)` (R62): the environment's answer, the script's if it gives one, else the oracle
`InPort`, a free value; the read is recorded. -/
def State.ioRead (s : State) (port : Byte) : Byte × State :=
  match s.inputs.portData with
  | some v => (v, { s with io := s.io ++ [.read port v] })
  | none =>
    let v := Config.inPort port s.io s.draws
    (v, { s with io := s.io ++ [.read port v], draws := s.draws + 1 })

/-- `IoWrite(port, v)` (R63): the write is recorded; nothing else changes. -/
def State.ioWrite (s : State) (port v : Byte) : State :=
  { s with io := s.io ++ [.write port v] }

/-! ### Interrupt entry and return (spec/60_exceptions.md R266, R273) -/

/-- Entry to an interrupt handler: `INTE <- 0; HALTED <- 0; push16(pc); pc <- target`, and EI_DELAY is
cleared (R266, R267). Nothing else is saved or changed. -/
def State.enterInterrupt (s : State) (target : Word) : State :=
  ({ s with inte := false, halted := false }.push16 s.pc).jumpTo target

/-- `pc <- pop16()`: the return from a subroutine and from an interrupt handler alike (R273,
spec/48_call_return.md R215). -/
def State.returnFromStack (s : State) : State :=
  let w := s.pop16
  w.2.jumpTo w.1

/-- The address of restart number `n`: `8 * N` (spec/30_encoding.md R90, spec/60_exceptions.md R275). -/
def restartAddress (n : BitVec 3) : Word := n.setWidth 16 <<< 3

/-- A call: `push16(ret); pc <- target` (spec/48_call_return.md R215). -/
def State.callTo (s : State) (ret target : Word) : State := (s.push16 ret).jumpTo target

end Sys2Proof.Machine
end

