-- ==== Sys2Proof/Machine/Operands.lean ====
section
/-! DEFINITION. The operand forms (spec/10_state.md R22, spec/00_scope.md R12): the memory operand M,
the pair operands in their three forms, PSW, and the shared shapes of the arithmetic, branch, call and
return instructions over them. -/

namespace Sys2Proof.Machine

/-- M read: `MemRead(HL, 1)` (spec/45_alu_two_operands.md R153). -/
def State.readM (s : State) : Byte × State := s.memRead s.hl

/-- M written: `MemWrite(HL, 1, v)`. -/
def State.writeM (s : State) (v : Byte) : State := s.memWrite s.hl v

/-- `rp[i]` read, SP form (spec/30_encoding.md R85). -/
def State.pair (s : State) : RegPair → Word
  | .bc => s.bc
  | .de => s.de
  | .hl => s.hl
  | .sp => s.sp

/-- `rp[i] <- v`, SP form. -/
def State.setPair (s : State) (rp : RegPair) (v : Word) : State :=
  match rp with
  | .bc => s.setBC v
  | .de => s.setDE v
  | .hl => s.setHL v
  | .sp => s.setSP v

/-- The pair of PUSH, read. -/
def State.stackPair (s : State) : StackPair → Word
  | .bc => s.bc
  | .de => s.de
  | .hl => s.hl

/-- The pair of POP, written. -/
def State.setStackPair (s : State) (rp : StackPair) (v : Word) : State :=
  match rp with
  | .bc => s.setBC v
  | .de => s.setDE v
  | .hl => s.setHL v

/-- The address of STAX and LDAX. -/
def State.indexAddress (s : State) : IndexPair → Word
  | .bc => s.bc
  | .de => s.de

/-- Bits 5 and 1 of the byte F that PUSH PSW stores (spec/41_transfer_two_bytes.md R125): 0 and 1 on the
8080, fresh free values on the 8085 (log 11). -/
def State.pswFill (s : State) : (Bool × Bool) × State :=
  match s.platform.variant with
  | .i8080 => ((false, true), s)
  | .i8085 => ((Config.pswD5 s.draws, Config.pswD1 s.draws), { s with draws := s.draws + 1 })

/-- A two-operand operation: A takes the result, all five flags are written
(spec/45_alu_two_operands.md). -/
def State.accumulate (s : State) (r : AluResult) : State :=
  (s.setReg .a r.value).setFlags (flagsAll s.flags r)

/-- A comparison: all five flags are written, A is not (R177). -/
def State.compareFlags (s : State) (r : AluResult) : State := s.setFlags (flagsAll s.flags r)

/-- `if cond(ccc) then pc <- adr else pc <- next` (spec/47_branch.md R203). -/
def State.jumpIf (s : State) (cond : Cond) (adr : Word) : State :=
  if condHolds s.flags cond then s.jumpTo adr else s.advance 3

/-- `if cond(ccc) then (push16(pc + 3); pc <- adr) else pc <- pc + 3` (spec/48_call_return.md R217). -/
def State.callIf (s : State) (cond : Cond) (adr : Word) : State :=
  if condHolds s.flags cond then s.callTo (s.pc + 3) adr else s.advance 3

/-- `if cond(ccc) then pc <- pop16() else pc <- pc + 1` (R234). -/
def State.returnIf (s : State) (cond : Cond) : State :=
  if condHolds s.flags cond then s.returnFromStack else s.advance 1

end Sys2Proof.Machine
end

