-- ==== Sys2Proof/Machine/AluOne.lean ====
section
/-! DEFINITION. Meanings of the arithmetic and logic instructions with one operand (spec/44_alu_one_operand.md). -/

namespace Sys2Proof.Machine

/-- CMC (R140): `CY <- 1 - CY`. -/
def execCmc (s : State) : Host.Outcome State Fault Refusal :=
  .next ((s.setCarry (!s.flags.cy)).advance 1)

/-- STC (R141): `CY <- 1`. -/
def execStc (s : State) : Host.Outcome State Fault Refusal :=
  .next ((s.setCarry true).advance 1)

/-- CMA (R142): `A <- ~A`, no flag. -/
def execCma (s : State) : Host.Outcome State Fault Refusal :=
  .next ((s.setReg .a (~~~s.regs.a)).advance 1)

/-- INR R (R143): `x[ddd] + 1`; S, Z, AC, P. -/
def execInrR (r : Reg) (s : State) : Host.Outcome State Fault Refusal :=
  let r8 := add8 (s.reg r) 1 false
  .next (((s.setReg r r8.value).setFlags (flagsAllButCarry s.flags r8)).advance 1)

/-- INR M (R144): the byte at HL plus 1, written back; S, Z, AC, P from the sum even if the write is
dropped. -/
def execInrM (s : State) : Host.Outcome State Fault Refusal :=
  let m := s.readM
  let r8 := add8 m.1 1 false
  .next (((m.2.writeM r8.value).setFlags (flagsAllButCarry s.flags r8)).advance 1)

/-- DCR R (R145): `x[ddd] - 1`; S, Z, AC, P. -/
def execDcrR (r : Reg) (s : State) : Host.Outcome State Fault Refusal :=
  let r8 := sub8 (s.reg r) 1 false
  .next (((s.setReg r r8.value).setFlags (flagsAllButCarry s.flags r8)).advance 1)

/-- DCR M (R146): the byte at HL minus 1, written back; S, Z, AC, P. -/
def execDcrM (s : State) : Host.Outcome State Fault Refusal :=
  let m := s.readM
  let r8 := sub8 m.1 1 false
  .next (((m.2.writeM r8.value).setFlags (flagsAllButCarry s.flags r8)).advance 1)

/-- INX RP (R147): `rp[pp] + 1` modulo 2^16, no flag. -/
def execInx (rp : RegPair) (s : State) : Host.Outcome State Fault Refusal :=
  .next ((s.setPair rp (s.pair rp + 1)).advance 1)

/-- DCX RP (R148): `rp[pp] - 1` modulo 2^16, no flag. -/
def execDcx (rp : RegPair) (s : State) : Host.Outcome State Fault Refusal :=
  .next ((s.setPair rp (s.pair rp - 1)).advance 1)

/-- DAA (R149): the decimal adjustment of A; all five flags. -/
def execDaa (s : State) : Host.Outcome State Fault Refusal :=
  .next ((s.accumulate (daa8 s.regs.a s.flags.ac s.flags.cy)).advance 1)

end Sys2Proof.Machine
end

