-- ==== Sys2Proof/Machine/AluTwo.lean ====
section
/-! DEFINITION. Meanings of the 8-bit arithmetic and logic instructions with two operands
(spec/45_alu_two_operands.md). Every form writes all five flags. -/

namespace Sys2Proof.Machine

/-- ADD R (R155): `A <- A + v`, v the register. -/
def execAddR (src : Reg) (s : State) : Host.Outcome State Fault Refusal :=
  .next ((s.accumulate (add8 s.regs.a (s.reg src) false)).advance 1)

/-- ADD M (R156): `A <- A + v`, v the byte at HL. -/
def execAddM (s : State) : Host.Outcome State Fault Refusal :=
  let m := s.readM
  .next ((m.2.accumulate (add8 s.regs.a m.1 false)).advance 1)

/-- ADI D8 (R157): `A <- A + v`, v the immediate. -/
def execAdi (d8 : Byte) (s : State) : Host.Outcome State Fault Refusal :=
  .next ((s.accumulate (add8 s.regs.a d8 false)).advance 2)

/-- ADC R (R158): `A <- A + v + CY`, v the register. -/
def execAdcR (src : Reg) (s : State) : Host.Outcome State Fault Refusal :=
  .next ((s.accumulate (add8 s.regs.a (s.reg src) s.flags.cy)).advance 1)

/-- ADC M (R159): `A <- A + v + CY`, v the byte at HL. -/
def execAdcM (s : State) : Host.Outcome State Fault Refusal :=
  let m := s.readM
  .next ((m.2.accumulate (add8 s.regs.a m.1 s.flags.cy)).advance 1)

/-- ACI D8 (R160): `A <- A + v + CY`, v the immediate. -/
def execAci (d8 : Byte) (s : State) : Host.Outcome State Fault Refusal :=
  .next ((s.accumulate (add8 s.regs.a d8 s.flags.cy)).advance 2)

/-- SUB R (R161): `A <- A - v`, v the register. -/
def execSubR (src : Reg) (s : State) : Host.Outcome State Fault Refusal :=
  .next ((s.accumulate (sub8 s.regs.a (s.reg src) false)).advance 1)

/-- SUB M (R162): `A <- A - v`, v the byte at HL. -/
def execSubM (s : State) : Host.Outcome State Fault Refusal :=
  let m := s.readM
  .next ((m.2.accumulate (sub8 s.regs.a m.1 false)).advance 1)

/-- SUI D8 (R163): `A <- A - v`, v the immediate. -/
def execSui (d8 : Byte) (s : State) : Host.Outcome State Fault Refusal :=
  .next ((s.accumulate (sub8 s.regs.a d8 false)).advance 2)

/-- SBB R (R164): `A <- A - (v + CY)`, v the register. -/
def execSbbR (src : Reg) (s : State) : Host.Outcome State Fault Refusal :=
  .next ((s.accumulate (sub8 s.regs.a (s.reg src) s.flags.cy)).advance 1)

/-- SBB M (R165): `A <- A - (v + CY)`, v the byte at HL. -/
def execSbbM (s : State) : Host.Outcome State Fault Refusal :=
  let m := s.readM
  .next ((m.2.accumulate (sub8 s.regs.a m.1 s.flags.cy)).advance 1)

/-- SBI D8 (R166): `A <- A - (v + CY)`, v the immediate. -/
def execSbi (d8 : Byte) (s : State) : Host.Outcome State Fault Refusal :=
  .next ((s.accumulate (sub8 s.regs.a d8 s.flags.cy)).advance 2)

/-- ANA R (R167): `A <- A & v`, v the register. -/
def execAnaR (src : Reg) (s : State) : Host.Outcome State Fault Refusal :=
  .next ((s.accumulate (and8 s.platform.variant s.regs.a (s.reg src))).advance 1)

/-- ANA M (R168): `A <- A & v`, v the byte at HL. -/
def execAnaM (s : State) : Host.Outcome State Fault Refusal :=
  let m := s.readM
  .next ((m.2.accumulate (and8 s.platform.variant s.regs.a m.1)).advance 1)

/-- ANI D8 (R169): `A <- A & v`, v the immediate. -/
def execAni (d8 : Byte) (s : State) : Host.Outcome State Fault Refusal :=
  .next ((s.accumulate (and8 s.platform.variant s.regs.a d8)).advance 2)

/-- XRA R (R170): `A <- A ^ v`, v the register. -/
def execXraR (src : Reg) (s : State) : Host.Outcome State Fault Refusal :=
  .next ((s.accumulate (xor8 s.regs.a (s.reg src))).advance 1)

/-- XRA M (R171): `A <- A ^ v`, v the byte at HL. -/
def execXraM (s : State) : Host.Outcome State Fault Refusal :=
  let m := s.readM
  .next ((m.2.accumulate (xor8 s.regs.a m.1)).advance 1)

/-- XRI D8 (R173): `A <- A ^ v`, v the immediate. -/
def execXri (d8 : Byte) (s : State) : Host.Outcome State Fault Refusal :=
  .next ((s.accumulate (xor8 s.regs.a d8)).advance 2)

/-- ORA R (R174): `A <- A | v`, v the register. -/
def execOraR (src : Reg) (s : State) : Host.Outcome State Fault Refusal :=
  .next ((s.accumulate (or8 s.regs.a (s.reg src))).advance 1)

/-- ORA M (R175): `A <- A | v`, v the byte at HL. -/
def execOraM (s : State) : Host.Outcome State Fault Refusal :=
  let m := s.readM
  .next ((m.2.accumulate (or8 s.regs.a m.1)).advance 1)

/-- ORI D8 (R176): `A <- A | v`, v the immediate. -/
def execOri (d8 : Byte) (s : State) : Host.Outcome State Fault Refusal :=
  .next ((s.accumulate (or8 s.regs.a d8)).advance 2)

/-- CMP R (R177): the difference A - v sets the flags and is discarded, v the register. -/
def execCmpR (src : Reg) (s : State) : Host.Outcome State Fault Refusal :=
  .next ((s.compareFlags (sub8 s.regs.a (s.reg src) false)).advance 1)

/-- CMP M (R178): the difference A - v sets the flags and is discarded, v the byte at HL. -/
def execCmpM (s : State) : Host.Outcome State Fault Refusal :=
  let m := s.readM
  .next ((m.2.compareFlags (sub8 s.regs.a m.1 false)).advance 1)

/-- CPI D8 (R179): the difference A - v sets the flags and is discarded, v the immediate. -/
def execCpi (d8 : Byte) (s : State) : Host.Outcome State Fault Refusal :=
  .next ((s.compareFlags (sub8 s.regs.a d8 false)).advance 2)

end Sys2Proof.Machine
end

