-- ==== Sys2Proof/Machine/Branch.lean ====
section
/-! DEFINITION. Meanings of the branches (spec/47_branch.md). None writes a flag. -/

namespace Sys2Proof.Machine

/-- PCHL (R200): `pc <- HL`. -/
def execPchl (s : State) : Host.Outcome State Fault Refusal :=
  .next (s.jumpTo s.hl)

/-- JMP ADR (R201): `pc <- adr`. -/
def execJmp (adr : Word) (s : State) : Host.Outcome State Fault Refusal :=
  .next (s.jumpTo adr)

/-- JNZ ADR (R204). -/
def execJnz (adr : Word) (s : State) : Host.Outcome State Fault Refusal :=
  .next (s.jumpIf .nz adr)

/-- JZ ADR (R205). -/
def execJz (adr : Word) (s : State) : Host.Outcome State Fault Refusal :=
  .next (s.jumpIf .z adr)

/-- JNC ADR (R206). -/
def execJnc (adr : Word) (s : State) : Host.Outcome State Fault Refusal :=
  .next (s.jumpIf .nc adr)

/-- JC ADR (R207). -/
def execJc (adr : Word) (s : State) : Host.Outcome State Fault Refusal :=
  .next (s.jumpIf .c adr)

/-- JPO ADR (R208). -/
def execJpo (adr : Word) (s : State) : Host.Outcome State Fault Refusal :=
  .next (s.jumpIf .po adr)

/-- JPE ADR (R209). -/
def execJpe (adr : Word) (s : State) : Host.Outcome State Fault Refusal :=
  .next (s.jumpIf .pe adr)

/-- JP ADR (R210). -/
def execJp (adr : Word) (s : State) : Host.Outcome State Fault Refusal :=
  .next (s.jumpIf .p adr)

/-- JM ADR (R211). -/
def execJm (adr : Word) (s : State) : Host.Outcome State Fault Refusal :=
  .next (s.jumpIf .m adr)

end Sys2Proof.Machine
end

