-- ==== Sys2Proof/Machine/CallReturn.lean ====
section
/-! DEFINITION. Meanings of the calls and returns (spec/48_call_return.md). None writes a flag. -/

namespace Sys2Proof.Machine

/-- CALL ADR (R216): `push16(pc + 3); pc <- adr`. -/
def execCall (adr : Word) (s : State) : Host.Outcome State Fault Refusal :=
  .next (s.callTo (s.pc + 3) adr)

/-- CNZ ADR (R218). -/
def execCnz (adr : Word) (s : State) : Host.Outcome State Fault Refusal :=
  .next (s.callIf .nz adr)

/-- CZ ADR (R219). -/
def execCz (adr : Word) (s : State) : Host.Outcome State Fault Refusal :=
  .next (s.callIf .z adr)

/-- CNC ADR (R220). -/
def execCnc (adr : Word) (s : State) : Host.Outcome State Fault Refusal :=
  .next (s.callIf .nc adr)

/-- CC ADR (R221). -/
def execCc (adr : Word) (s : State) : Host.Outcome State Fault Refusal :=
  .next (s.callIf .c adr)

/-- CPO ADR (R222). -/
def execCpo (adr : Word) (s : State) : Host.Outcome State Fault Refusal :=
  .next (s.callIf .po adr)

/-- CPE ADR (R223). -/
def execCpe (adr : Word) (s : State) : Host.Outcome State Fault Refusal :=
  .next (s.callIf .pe adr)

/-- CP ADR (R224). -/
def execCp (adr : Word) (s : State) : Host.Outcome State Fault Refusal :=
  .next (s.callIf .p adr)

/-- CM ADR (R225). -/
def execCm (adr : Word) (s : State) : Host.Outcome State Fault Refusal :=
  .next (s.callIf .m adr)

/-- RST N (R227): `push16(pc + 1); pc <- 8 * N`. -/
def execRst (n : BitVec 3) (s : State) : Host.Outcome State Fault Refusal :=
  .next (s.callTo (s.pc + 1) (restartAddress n))

/-- RET (R233): `pc <- pop16()`. -/
def execRet (s : State) : Host.Outcome State Fault Refusal :=
  .next s.returnFromStack

/-- RNZ (R235). -/
def execRnz (s : State) : Host.Outcome State Fault Refusal :=
  .next (s.returnIf .nz)

/-- RZ (R236). -/
def execRz (s : State) : Host.Outcome State Fault Refusal :=
  .next (s.returnIf .z)

/-- RNC (R237). -/
def execRnc (s : State) : Host.Outcome State Fault Refusal :=
  .next (s.returnIf .nc)

/-- RC (R238). -/
def execRc (s : State) : Host.Outcome State Fault Refusal :=
  .next (s.returnIf .c)

/-- RPO (R239). -/
def execRpo (s : State) : Host.Outcome State Fault Refusal :=
  .next (s.returnIf .po)

/-- RPE (R240). -/
def execRpe (s : State) : Host.Outcome State Fault Refusal :=
  .next (s.returnIf .pe)

/-- RP (R241). -/
def execRp (s : State) : Host.Outcome State Fault Refusal :=
  .next (s.returnIf .p)

/-- RM (R242). -/
def execRm (s : State) : Host.Outcome State Fault Refusal :=
  .next (s.returnIf .m)

end Sys2Proof.Machine
end

