-- ==== Sys2Proof/Machine/Control.lean ====
section
/-! DEFINITION. Meanings of the processor control instructions (spec/49_control.md). None writes a flag. -/

namespace Sys2Proof.Machine

/-- The byte RIM reads (R250). Bit 3 is the INTE remembered by a TRAP, if one is, else INTE (R281). -/
def State.rimImage (s : State) : Byte :=
  BitVec.ofBool s.inputs.sid ++ BitVec.ofBool s.irq.i75 ++ BitVec.ofBool s.inputs.rst65 ++
    BitVec.ofBool s.inputs.rst55 ++ BitVec.ofBool (s.irq.trapInte.getD s.inte) ++
    BitVec.ofBool s.irq.m75 ++ BitVec.ofBool s.irq.m65 ++ BitVec.ofBool s.irq.m55

/-- What SIM does to the 8085's interrupt state with `a` in A (R251). -/
def simEffect (a : Byte) (q : Irq85) : Irq85 :=
  let masks : Irq85 :=
    if a.getLsbD 3 then { q with m75 := a.getLsbD 2, m65 := a.getLsbD 1, m55 := a.getLsbD 0 } else q
  let latch : Irq85 := if a.getLsbD 4 then { masks with i75 := false } else masks
  if a.getLsbD 6 then { latch with sod := a.getLsbD 7 } else latch

/-- EI (R245): `INTE <- 1; EI_DELAY <- 1`. -/
def execEi (s : State) : Host.Outcome State Fault Refusal :=
  .next { s.advance 1 with inte := true, eiDelay := true }

/-- DI (R246): `INTE <- 0`. -/
def execDi (s : State) : Host.Outcome State Fault Refusal :=
  .next { s.advance 1 with inte := false }

/-- HLT (R247): `pc <- next; HALTED <- 1`. -/
def execHlt (s : State) : Host.Outcome State Fault Refusal :=
  .next { s.advance 1 with halted := true }

/-- NOP (R248): `pc <- pc + 1`. -/
def execNop (s : State) : Host.Outcome State Fault Refusal :=
  .next (s.advance 1)

/-- RIM (R250), 8085 only: `A <- SID : I75 : Rst65 : Rst55 : INTE : M75 : M65 : M55`. After a TRAP the
first RIM returns the INTE of before it in A[3] (R281; log 14). On the 8080 its byte is unassigned
(spec/30_encoding.md R105), and the syntax is refused likewise (log 18). -/
def execRim (s : State) : Host.Outcome State Fault Refusal :=
  match s.platform.variant with
  | .i8080 => .refused (.unassignedOpcode 0x20)
  | .i8085 => .next (({ s with irq := { s.irq with trapInte := none } }.setReg .a s.rimImage).advance 1)

/-- SIM (R251), 8085 only: A[3] enables the masks from A[2:0], A[4] clears the RST 7.5 latch, A[6]
enables SOD from A[7]. On the 8080 its byte is unassigned (spec/30_encoding.md R105), and the syntax
is refused likewise (log 18). -/
def execSim (s : State) : Host.Outcome State Fault Refusal :=
  match s.platform.variant with
  | .i8080 => .refused (.unassignedOpcode 0x30)
  | .i8085 => .next ({ s with irq := simEffect s.regs.a s.irq }.advance 1)

end Sys2Proof.Machine
end

