-- ==== Sys2Proof/Machine/Exchange.lean ====
section
/-! DEFINITION. Meanings of the exchanges (spec/42_exchange.md). None writes a flag. -/

namespace Sys2Proof.Machine

/-- XCHG (R130): `t <- HL; HL <- DE; DE <- t`. -/
def execXchg (s : State) : Host.Outcome State Fault Refusal :=
  .next (((s.setHL s.de).setDE s.hl).advance 1)

/-- XTHL (R131): read `SP`, read `SP+1`, write H at `SP+1`, write L at `SP`, then HL takes what was read. -/
def execXthl (s : State) : Host.Outcome State Fault Refusal :=
  let w := s.memRead16 s.sp
  .next ((((w.2.memWrite (s.sp + 1) s.regs.h).memWrite s.sp s.regs.l).setHL w.1).advance 1)

end Sys2Proof.Machine
end

