-- ==== Sys2Proof/Machine/InputOutput.lean ====
section
/-! DEFINITION. Meanings of the input and output instructions (spec/43_input_output.md). None writes a flag. -/

namespace Sys2Proof.Machine

/-- IN PORT (R135): `A <- IoRead(port)`. -/
def execInPort (port : Byte) (s : State) : Host.Outcome State Fault Refusal :=
  let r := s.ioRead port
  .next ((r.2.setReg .a r.1).advance 2)

/-- OUT PORT (R136): `IoWrite(port, A)`. -/
def execOutPort (port : Byte) (s : State) : Host.Outcome State Fault Refusal :=
  .next ((s.ioWrite port s.regs.a).advance 2)

end Sys2Proof.Machine
end

