-- ==== Sys2Proof/Machine/Rotate.lean ====
section
/-! DEFINITION. Meanings of the rotations of the accumulator and of DAD (spec/46_rotate_and_dad.md). Each writes CY
and no other flag. -/

namespace Sys2Proof.Machine

/-- RLC (R190): `A <- a[6:0] : a[7]; CY <- a[7]`. -/
def execRlc (s : State) : Host.Outcome State Fault Refusal :=
  .next (((s.setReg .a (s.regs.a.extractLsb' 0 7 ++ s.regs.a.extractLsb' 7 1)).setCarry (s.regs.a.getLsbD 7)).advance 1)

/-- RRC (R191): `A <- a[0] : a[7:1]; CY <- a[0]`. -/
def execRrc (s : State) : Host.Outcome State Fault Refusal :=
  .next (((s.setReg .a (s.regs.a.extractLsb' 0 1 ++ s.regs.a.extractLsb' 1 7)).setCarry (s.regs.a.getLsbD 0)).advance 1)

/-- RAL (R192): `A <- a[6:0] : CY; CY <- a[7]`. -/
def execRal (s : State) : Host.Outcome State Fault Refusal :=
  .next (((s.setReg .a (s.regs.a.extractLsb' 0 7 ++ BitVec.ofBool s.flags.cy)).setCarry (s.regs.a.getLsbD 7)).advance 1)

/-- RAR (R193): `A <- CY : a[7:1]; CY <- a[0]`. -/
def execRar (s : State) : Host.Outcome State Fault Refusal :=
  .next (((s.setReg .a (BitVec.ofBool s.flags.cy ++ s.regs.a.extractLsb' 1 7)).setCarry (s.regs.a.getLsbD 0)).advance 1)

/-- DAD RP (R194): the 17-bit sum of HL and the pair; HL takes its low 16 bits, CY its bit 16. -/
def execDad (rp : RegPair) (s : State) : Host.Outcome State Fault Refusal :=
  let s17 := s.hl.setWidth 17 + (s.pair rp).setWidth 17
  .next (((s.setHL (s17.setWidth 16)).setCarry (s17.getLsbD 16)).advance 1)

end Sys2Proof.Machine
end

