-- ==== Sys2Proof/Machine/TransferByte.lean ====
section
/-! DEFINITION. Meanings of the one byte transfers (spec/40_transfer_one_byte.md). None writes a flag. -/

namespace Sys2Proof.Machine

/-- MOV R1, R2 (R110): `x[ddd] <- x[sss]`. -/
def execMovRR (dst src : Reg) (s : State) : Host.Outcome State Fault Refusal :=
  .next ((s.setReg dst (s.reg src)).advance 1)

/-- MOV R, M (R111): `x[ddd] <- MemRead(HL, 1)`, at the HL before the instruction. -/
def execMovRM (dst : Reg) (s : State) : Host.Outcome State Fault Refusal :=
  let m := s.readM
  .next ((m.2.setReg dst m.1).advance 1)

/-- MOV M, R (R112): `MemWrite(HL, 1, x[sss])`. -/
def execMovMR (src : Reg) (s : State) : Host.Outcome State Fault Refusal :=
  .next ((s.writeM (s.reg src)).advance 1)

/-- MVI R, D8 (R113): `x[ddd] <- d8`. -/
def execMviR (dst : Reg) (d8 : Byte) (s : State) : Host.Outcome State Fault Refusal :=
  .next ((s.setReg dst d8).advance 2)

/-- MVI M, D8 (R114): `MemWrite(HL, 1, d8)`. -/
def execMviM (d8 : Byte) (s : State) : Host.Outcome State Fault Refusal :=
  .next ((s.writeM d8).advance 2)

/-- STAX RP (R115): `MemWrite(rp[p], 1, A)`. -/
def execStax (rp : IndexPair) (s : State) : Host.Outcome State Fault Refusal :=
  .next ((s.memWrite (s.indexAddress rp) s.regs.a).advance 1)

/-- LDAX RP (R116): `A <- MemRead(rp[p], 1)`. -/
def execLdax (rp : IndexPair) (s : State) : Host.Outcome State Fault Refusal :=
  let m := s.memRead (s.indexAddress rp)
  .next ((m.2.setReg .a m.1).advance 1)

/-- STA ADR (R117): `MemWrite(adr, 1, A)`. -/
def execSta (adr : Word) (s : State) : Host.Outcome State Fault Refusal :=
  .next ((s.memWrite adr s.regs.a).advance 3)

/-- LDA ADR (R118): `A <- MemRead(adr, 1)`. -/
def execLda (adr : Word) (s : State) : Host.Outcome State Fault Refusal :=
  let m := s.memRead adr
  .next ((m.2.setReg .a m.1).advance 3)

end Sys2Proof.Machine
end

