-- ==== Sys2Proof/Machine/TransferWord.lean ====
section
/-! DEFINITION. Meanings of the two bytes transfers (spec/41_transfer_two_bytes.md). Only POP PSW writes flags. -/

namespace Sys2Proof.Machine

/-- LXI RP, D16 (R120): `rp[pp] <- d16`. -/
def execLxi (rp : RegPair) (d16 : Word) (s : State) : Host.Outcome State Fault Refusal :=
  .next ((s.setPair rp d16).advance 3)

/-- SHLD ADR (R121): L at `adr`, then H at `adr+1`. -/
def execShld (adr : Word) (s : State) : Host.Outcome State Fault Refusal :=
  .next ((s.memWrite16 adr s.hl).advance 3)

/-- LHLD ADR (R122): L from `adr`, then H from `adr+1`. -/
def execLhld (adr : Word) (s : State) : Host.Outcome State Fault Refusal :=
  let w := s.memRead16 adr
  .next ((w.2.setHL w.1).advance 3)

/-- PUSH RP (R123): `push16(rp[pp])`. -/
def execPushRP (rp : StackPair) (s : State) : Host.Outcome State Fault Refusal :=
  .next ((s.push16 (s.stackPair rp)).advance 1)

/-- PUSH PSW (R125): A at `SP-1`, F at `SP-2`, `SP <- SP-2`. Bits 5 and 1 of F are free on the 8085
(log 11). -/
def execPushPsw (s : State) : Host.Outcome State Fault Refusal :=
  let fill := s.pswFill
  .next ((fill.2.push16 (joinBytes s.regs.a (flagByte s.flags fill.1.1 fill.1.2))).advance 1)

/-- POP RP (R126): `rp[pp] <- pop16()`. -/
def execPopRP (rp : StackPair) (s : State) : Host.Outcome State Fault Refusal :=
  let w := s.pop16
  .next ((w.2.setStackPair rp w.1).advance 1)

/-- POP PSW (R127): F from `SP`, A from `SP+1`, `SP <- SP+2`; the five flags are bits of the byte popped. -/
def execPopPsw (s : State) : Host.Outcome State Fault Refusal :=
  let w := s.pop16
  .next (((w.2.setReg .a (highByte w.1)).setFlags (flagsOfByte (lowByte w.1))).advance 1)

/-- SPHL (R128): `SP <- HL`. -/
def execSphl (s : State) : Host.Outcome State Fault Refusal :=
  .next ((s.setSP s.hl).advance 1)

end Sys2Proof.Machine
end

