-- ==== Sys2Proof/Machine/Dispatch.lean ====
section
/-! DEFINITION. The meaning of each instruction, one arm per constructor of Instr. -/

namespace Sys2Proof.Machine

def exec (i : Instr) (s : State) : Host.Outcome State Fault Refusal :=
  match i with
  | .movRR dst src => Sys2Proof.Machine.execMovRR dst src s
  | .movRM dst => Sys2Proof.Machine.execMovRM dst s
  | .movMR src => Sys2Proof.Machine.execMovMR src s
  | .mviR dst d8 => Sys2Proof.Machine.execMviR dst d8 s
  | .mviM d8 => Sys2Proof.Machine.execMviM d8 s
  | .stax rp => Sys2Proof.Machine.execStax rp s
  | .ldax rp => Sys2Proof.Machine.execLdax rp s
  | .sta adr => Sys2Proof.Machine.execSta adr s
  | .lda adr => Sys2Proof.Machine.execLda adr s
  | .lxi rp d16 => Sys2Proof.Machine.execLxi rp d16 s
  | .shld adr => Sys2Proof.Machine.execShld adr s
  | .lhld adr => Sys2Proof.Machine.execLhld adr s
  | .pushRP rp => Sys2Proof.Machine.execPushRP rp s
  | .pushPsw => Sys2Proof.Machine.execPushPsw s
  | .popRP rp => Sys2Proof.Machine.execPopRP rp s
  | .popPsw => Sys2Proof.Machine.execPopPsw s
  | .sphl => Sys2Proof.Machine.execSphl s
  | .xchg => Sys2Proof.Machine.execXchg s
  | .xthl => Sys2Proof.Machine.execXthl s
  | .inPort port => Sys2Proof.Machine.execInPort port s
  | .outPort port => Sys2Proof.Machine.execOutPort port s
  | .cmc => Sys2Proof.Machine.execCmc s
  | .stc => Sys2Proof.Machine.execStc s
  | .cma => Sys2Proof.Machine.execCma s
  | .inrR r => Sys2Proof.Machine.execInrR r s
  | .inrM => Sys2Proof.Machine.execInrM s
  | .dcrR r => Sys2Proof.Machine.execDcrR r s
  | .dcrM => Sys2Proof.Machine.execDcrM s
  | .inx rp => Sys2Proof.Machine.execInx rp s
  | .dcx rp => Sys2Proof.Machine.execDcx rp s
  | .daa => Sys2Proof.Machine.execDaa s
  | .addR src => Sys2Proof.Machine.execAddR src s
  | .addM => Sys2Proof.Machine.execAddM s
  | .adcR src => Sys2Proof.Machine.execAdcR src s
  | .adcM => Sys2Proof.Machine.execAdcM s
  | .subR src => Sys2Proof.Machine.execSubR src s
  | .subM => Sys2Proof.Machine.execSubM s
  | .sbbR src => Sys2Proof.Machine.execSbbR src s
  | .sbbM => Sys2Proof.Machine.execSbbM s
  | .anaR src => Sys2Proof.Machine.execAnaR src s
  | .anaM => Sys2Proof.Machine.execAnaM s
  | .xraR src => Sys2Proof.Machine.execXraR src s
  | .xraM => Sys2Proof.Machine.execXraM s
  | .oraR src => Sys2Proof.Machine.execOraR src s
  | .oraM => Sys2Proof.Machine.execOraM s
  | .cmpR src => Sys2Proof.Machine.execCmpR src s
  | .cmpM => Sys2Proof.Machine.execCmpM s
  | .adi d8 => Sys2Proof.Machine.execAdi d8 s
  | .aci d8 => Sys2Proof.Machine.execAci d8 s
  | .sui d8 => Sys2Proof.Machine.execSui d8 s
  | .sbi d8 => Sys2Proof.Machine.execSbi d8 s
  | .ani d8 => Sys2Proof.Machine.execAni d8 s
  | .xri d8 => Sys2Proof.Machine.execXri d8 s
  | .ori d8 => Sys2Proof.Machine.execOri d8 s
  | .cpi d8 => Sys2Proof.Machine.execCpi d8 s
  | .rlc => Sys2Proof.Machine.execRlc s
  | .rrc => Sys2Proof.Machine.execRrc s
  | .ral => Sys2Proof.Machine.execRal s
  | .rar => Sys2Proof.Machine.execRar s
  | .dad rp => Sys2Proof.Machine.execDad rp s
  | .pchl => Sys2Proof.Machine.execPchl s
  | .jmp adr => Sys2Proof.Machine.execJmp adr s
  | .jnz adr => Sys2Proof.Machine.execJnz adr s
  | .jz adr => Sys2Proof.Machine.execJz adr s
  | .jnc adr => Sys2Proof.Machine.execJnc adr s
  | .jc adr => Sys2Proof.Machine.execJc adr s
  | .jpo adr => Sys2Proof.Machine.execJpo adr s
  | .jpe adr => Sys2Proof.Machine.execJpe adr s
  | .jp adr => Sys2Proof.Machine.execJp adr s
  | .jm adr => Sys2Proof.Machine.execJm adr s
  | .call adr => Sys2Proof.Machine.execCall adr s
  | .cnz adr => Sys2Proof.Machine.execCnz adr s
  | .cz adr => Sys2Proof.Machine.execCz adr s
  | .cnc adr => Sys2Proof.Machine.execCnc adr s
  | .cc adr => Sys2Proof.Machine.execCc adr s
  | .cpo adr => Sys2Proof.Machine.execCpo adr s
  | .cpe adr => Sys2Proof.Machine.execCpe adr s
  | .cp adr => Sys2Proof.Machine.execCp adr s
  | .cm adr => Sys2Proof.Machine.execCm adr s
  | .rst n => Sys2Proof.Machine.execRst n s
  | .ret => Sys2Proof.Machine.execRet s
  | .rnz => Sys2Proof.Machine.execRnz s
  | .rz => Sys2Proof.Machine.execRz s
  | .rnc => Sys2Proof.Machine.execRnc s
  | .rc => Sys2Proof.Machine.execRc s
  | .rpo => Sys2Proof.Machine.execRpo s
  | .rpe => Sys2Proof.Machine.execRpe s
  | .rp => Sys2Proof.Machine.execRp s
  | .rm => Sys2Proof.Machine.execRm s
  | .ei => Sys2Proof.Machine.execEi s
  | .di => Sys2Proof.Machine.execDi s
  | .hlt => Sys2Proof.Machine.execHlt s
  | .nop => Sys2Proof.Machine.execNop s
  | .rim => Sys2Proof.Machine.execRim s
  | .sim => Sys2Proof.Machine.execSim s

end Sys2Proof.Machine
end

