-- ==== Sys2Proof/Machine/Fetch.lean ====
section
/-! DEFINITION. Fetching an instruction (spec/10_state.md R27) and storing one where the next fetch
reads. -/

namespace Sys2Proof.Machine

/-- The bytes of a fetched instruction; a byte past its length is 0 and nothing looks at it. -/
structure Fetched where
  op : Byte
  b2 : Byte
  b3 : Byte
deriving DecidableEq, Repr

/-- R27 (2) to (4): the opcode byte at `pc`, then, as its length says, the bytes at `pc+1` and `pc+2`
modulo 2^16, each an ordinary MemRead (spec/20_memory.md R70). -/
def State.fetch (s : State) : Fetched × State :=
  let r1 := s.memRead s.pc
  match opcodeLength r1.1 with
  | 1 => ({ op := r1.1, b2 := 0, b3 := 0 }, r1.2)
  | 2 =>
    let r2 := r1.2.memRead (s.pc + 1)
    ({ op := r1.1, b2 := r2.1, b3 := 0 }, r2.2)
  | _ =>
    let r2 := r1.2.memRead (s.pc + 1)
    let r3 := r2.2.memRead (s.pc + 2)
    ({ op := r1.1, b2 := r2.1, b3 := r3.1 }, r3.2)

/-- A byte put into memory from outside the machine (log 21). -/
def State.load (s : State) (adr : Word) (v : Byte) : State :=
  { s with mem := s.mem.store adr.toNat v }

end Sys2Proof.Machine
end

