-- ==== Sys2Proof/Machine/Interrupts.lean ====
section
/-! DEFINITION. What happens at an instruction boundary before the fetch (spec/60_exceptions.md
R261 to R286, spec/70_reset_and_hazards.md R300, R301). -/

namespace Sys2Proof.Machine

/-- The events that divert execution (spec/60_exceptions.md R261), highest priority first (R272). -/
inductive BoundaryEvent where
  | reset
  | trap
  | rst75
  | rst65
  | rst55
  /-- INT or INTR with restart number `n`. -/
  | intr (n : BitVec 3)
  /-- INT or INTR whose device supplies another instruction than RST N (R269). -/
  | injected (op : Byte)
deriving DecidableEq, Repr

/-- The environment's next answer becomes current; the script's end is followed by quiet (log 10). -/
def State.nextInputs (s : State) : State :=
  match s.script with
  | [] => { s with inputs := Inputs.quiet }
  | i :: rest => { s with inputs := i, script := rest }

/-- A rising edge on RST 7.5 sets the latch I75, even while masked or disabled (R280); 8085 only. -/
def State.latchRst75 (s : State) : State :=
  match s.platform.variant with
  | .i8080 => s
  | .i8085 => { s with irq := { s.irq with i75 := s.irq.i75 || s.inputs.rst75Edge } }

/-- The inputs are sampled at the boundary (log 20). -/
def State.sampleInputs (s : State) : State := s.nextInputs.latchRst75

/-- A maskable request can be accepted at this boundary: INTE = 1 and EI_DELAY = 0 (R263, R267). -/
def State.maskableOpen (s : State) : Bool := s.inte && !s.eiDelay

/-- The interrupt of R266, where it is accepted. -/
def State.intrEvent (s : State) : Option BoundaryEvent :=
  if s.maskableOpen then
    match s.inputs.intr with
    | .none => none
    | .rst n => some (.intr n)
    | .other op => some (.injected op)
  else none

/-- The 8085's order: TRAP (R281), RST 7.5 (R282), RST 6.5 (R283), RST 5.5 (R284), then INTR (R285,
R286). -/
def State.event85 (s : State) : Option BoundaryEvent :=
  if s.inputs.trap then some .trap
  else if s.maskableOpen && s.irq.i75 && !s.irq.m75 then some .rst75
  else if s.maskableOpen && s.inputs.rst65 && !s.irq.m65 then some .rst65
  else if s.maskableOpen && s.inputs.rst55 && !s.irq.m55 then some .rst55
  else s.intrEvent

/-- The event taken at this boundary, if any: reset wins (R272), the 8080 has the one interrupt input
of R262, the 8085 the five of R286. -/
def State.boundaryEvent (s : State) : Option BoundaryEvent :=
  if s.inputs.reset then some .reset
  else
    match s.platform.variant with
    | .i8080 => s.intrEvent
    | .i8085 => s.event85

/-- A cell of memory that a reset leaves: ROM holds what the platform put there (spec/10_state.md
R44). -/
def keptByReset (p : Platform) (c : Host.Cell) : Bool :=
  match kindIn p.map c.1 with
  | .rom => true
  | _ => false

/-- Reset applied during a run (spec/70_reset_and_hazards.md R300, R301): the control state and pc as
after power-on; what reset leaves unspecified is free (log 17). -/
def State.applyReset (s : State) : State :=
  let n := s.resets + 1
  { s with
    regs :=
      { a := Config.registerAtReset n Reg.a.code, b := Config.registerAtReset n Reg.b.code,
        c := Config.registerAtReset n Reg.c.code, d := Config.registerAtReset n Reg.d.code,
        e := Config.registerAtReset n Reg.e.code, h := Config.registerAtReset n Reg.h.code,
        l := Config.registerAtReset n Reg.l.code }
    flags := flagsOfByte (Config.flagsAtReset n)
    sp := Config.spAtReset n
    pc := 0x0000
    inte := false, halted := false, eiDelay := false
    irq := irqAtReset
    mem := s.mem.filter (keptByReset s.platform)
    resets := n }

/-- TRAP (R281): the INTE of before is remembered for the first RIM (log 14), then entry at 0x0024. -/
def State.enterTrap (s : State) : State :=
  { s with irq := { s.irq with trapInte := some s.inte } }.enterInterrupt 0x0024

/-- RST 7.5 (R282): the latch is cleared, then entry at 0x003C. -/
def State.enterRst75 (s : State) : State :=
  { s with irq := { s.irq with i75 := false } }.enterInterrupt 0x003C

/-- The event happens in the place of a fetch (R266, R281 to R284, R300). -/
def takeEvent (e : BoundaryEvent) (s : State) : Host.Outcome State Fault Refusal :=
  match e with
  | .reset => .next s.applyReset
  | .trap => .next s.enterTrap
  | .rst75 => .next s.enterRst75
  | .rst65 => .next (s.enterInterrupt 0x0034)
  | .rst55 => .next (s.enterInterrupt 0x002C)
  | .intr n => .next (s.enterInterrupt (restartAddress n))
  | .injected op => .refused (.injectedInstruction op)

end Sys2Proof.Machine
end

