-- ==== Sys2Proof/Machine/Step.lean ====
section
/-! DEFINITION. One step of the machine (spec/10_state.md R27, spec/60_exceptions.md R286): a boundary,
then one instruction, or an event in its place, or nothing while halted. -/

namespace Sys2Proof.Machine

/-- Fetch, decode and execute the instruction at `pc` (R27 (2) to (5)); a byte with no instruction is
refused by name (spec/30_encoding.md R104). -/
def runInstruction (s : State) : Host.Outcome State Fault Refusal :=
  let f := s.fetch
  match decode s.platform.variant f.1.op f.1.b2 f.1.b3 with
  | .ok i => exec i f.2
  | .error (.unassigned op) => .refused (.unassignedOpcode op)

/-- One step: sample the inputs; take the event of the boundary if there is one (R286); else, while
halted, stay (R268); else run the instruction at `pc`. -/
def step (s : State) : Host.Outcome State Fault Refusal :=
  let s0 := s.sampleInputs
  match s0.boundaryEvent with
  | some e => takeEvent e s0
  | none => if s0.halted then .next s0 else runInstruction s0

/-- The state with an instruction of the opcode table stored where step fetches its next instruction:
three bytes from `pc` on, as a load from outside the machine puts them there (log 21). -/
def State.withFetchWord (s : State) (nbits w : Nat) : State :=
  ((s.load s.pc (tableByte nbits w 0)).load (s.pc + 1) (tableByte nbits w 1)).load (s.pc + 2)
    (tableByte nbits w 2)

end Sys2Proof.Machine
end

