-- ==== Sys2Proof/Safety.lean ====
section
/-! DEFINITION. What counts as a good state and as a safe run, in the terms that statements use. -/

namespace Sys2Proof.Machine

/-- EI_DELAY is 1 only right after EI: interrupts are then enabled and the machine runs
(spec/10_state.md R38, spec/60_exceptions.md R267). -/
def State.delayLegal (s : State) : Bool := !s.eiDelay || (s.inte && !s.halted)

/-- The 8085's own state is absent on the 8080: it stands at its reset values (spec/10_state.md R39,
log 13). -/
def State.irqLegal (s : State) : Bool :=
  match s.platform.variant with
  | .i8080 => decide (s.irq = irqAtReset)
  | .i8085 => true

/-- A state of good form: memory canonical, EI_DELAY legal, no 8085 state on the 8080. -/
def State.wf (s : State) : Bool := s.mem.wf && s.delayLegal && s.irqLegal

/-- The next step has a next state: it is refused for nothing. -/
def State.steps (s : State) : Bool :=
  match step s with
  | .next _ => true
  | .fault _ => false
  | .refused _ => false

/-- A run of `n` steps that nothing refuses. -/
def State.runsSafely (s : State) : Nat → Bool
  | 0 => true
  | n + 1 =>
    match step s with
    | .next t => State.runsSafely t n
    | .fault _ => false
    | .refused _ => false

end Sys2Proof.Machine
end

