-- ==== Sys2Proof/Certificates/Slice0/Obligations.lean ====
section
/-! DEFINITION. The statements for the provers, and the predicates they are written with. An address of
a store is the expression the meaning stores to; memory is read through `State.content`, one byte at a
time. -/

namespace Sys2Proof.Stated

open Sys2Proof Sys2Proof.Machine

/-! ### Encodings (spec/30_encoding.md R80) -/

/-- `op` is the one byte of `i`, on both variants. -/
def IsF1 (op : Byte) (i : Instr) : Prop :=
  opcodeLength op = 1 ∧ ∀ (v : Variant) (b2 b3 : Byte), decode v op b2 b3 = .ok i

/-- `op` and a second byte, the operand, are the instruction. -/
def IsF2 (op : Byte) (i : Byte → Instr) : Prop :=
  opcodeLength op = 2 ∧ ∀ (v : Variant) (b2 b3 : Byte), decode v op b2 b3 = .ok (i b2)

/-- `op` and two operand bytes, the low one first, are the instruction. -/
def IsF3 (op : Byte) (i : Word → Instr) : Prop :=
  opcodeLength op = 3 ∧ ∀ (v : Variant) (lo hi : Byte), decode v op lo hi = .ok (i (hi ++ lo))

/-- The opcode bytes with no instruction on `v` (R104, R105). -/
def unassigned (v : Variant) : List Byte :=
  match v with
  | .i8080 => [0x08, 0x10, 0x18, 0x28, 0x38, 0xCB, 0xD9, 0xDD, 0xED, 0xFD, 0x20, 0x30]
  | .i8085 => [0x08, 0x10, 0x18, 0x28, 0x38, 0xCB, 0xD9, 0xDD, 0xED, 0xFD]

/-! ### Memory before and after -/

/-- Every byte of memory reads as before. -/
def MemorySame (s t : State) : Prop := ∀ x : Word, t.content x = s.content x

/-- `v` is stored at `adr` if that is RAM; every other byte reads as before
(spec/20_memory.md R56). -/
def Stored (s t : State) (adr : Word) (v : Byte) : Prop :=
  ∀ x : Word, t.content x = if x = adr ∧ s.kindAt adr = .ram then v else s.content x

/-- `v1` is stored at `adr1`, then `v2` at `adr2`, each if that is RAM; every other byte reads as
before. -/
def Stored2 (s t : State) (adr1 : Word) (v1 : Byte) (adr2 : Word) (v2 : Byte) : Prop :=
  ∀ x : Word, t.content x =
    if x = adr2 ∧ s.kindAt adr2 = .ram then v2
    else if x = adr1 ∧ s.kindAt adr1 = .ram then v1 else s.content x

/-- The bytes that two reads, at `adr` and then at `adr + 1`, give, and the count of draws after them. -/
def firstByte (s : State) (adr : Word) : Byte := (s.memRead adr).1
def secondByte (s : State) (adr : Word) : Byte := ((s.memRead adr).2.memRead (adr + 1)).1
def drawsAfterTwo (s : State) (adr : Word) : Nat := ((s.memRead adr).2.memRead (adr + 1)).2.draws

/-! ### Flags (spec/00_scope.md R11, spec/10_state.md R31) -/

/-- How many of the eight bits are 1. -/
def onesIn (r : Byte) : Nat := ((List.range 8).filter (fun k => r.getLsbD k)).length

/-- S, Z and P describe the result `r`. -/
def ShowsResult (f : Flags) (r : Byte) : Prop :=
  f.s = decide (128 ≤ r.toNat) ∧ f.z = decide (r.toNat = 0) ∧ f.p = decide (onesIn r % 2 = 0)

/-! ### Frames -/

/-- Only A, the flags, pc, EI_DELAY and the count of draws may differ, pc by `len`; EI_DELAY is 0. -/
def OnlyAccumulator (s t : State) (len : Word) (draws : Nat) : Prop :=
  t = { s with regs := { s.regs with a := t.regs.a }, flags := t.flags, pc := s.pc + len,
               eiDelay := false, draws := draws } ∧ MemorySame s t

/-- The three forms of a two-operand operation of code `ooo` (spec/30_encoding.md R87,
spec/45_alu_two_operands.md R153): each answers a next state in which `Effect s v t` holds of the second
operand `v`, and changes nothing outside `OnlyAccumulator`. -/
def AluForms (ooo : BitVec 3) (reg : Reg → Instr) (mem : Instr) (imm : Byte → Instr)
    (Effect : State → Byte → State → Prop) : Prop :=
  (∀ (s : State) (src : Reg), IsF1 (0b10#2 ++ ooo ++ src.code) (reg src) ∧
    ∃ t, exec (reg src) s = .next t ∧ OnlyAccumulator s t 1 s.draws ∧ Effect s (s.reg src) t) ∧
  (∀ s : State, IsF1 (0b10#2 ++ ooo ++ 0b110#3) mem ∧
    ∃ t, exec mem s = .next t ∧ OnlyAccumulator s t 1 (s.memRead s.hl).2.draws ∧
      Effect s (s.memRead s.hl).1 t) ∧
  (∀ (s : State) (d8 : Byte), IsF2 (0b11#2 ++ ooo ++ 0b110#3) imm ∧
    ∃ t, exec (imm d8) s = .next t ∧ OnlyAccumulator s t 2 s.draws ∧ Effect s d8 t)

/-- A takes `A + v + c`, all five flags are written (R155, R158). -/
def AddsInto (s : State) (v : Byte) (c : Nat) (t : State) : Prop :=
  t.regs.a.toNat = (s.regs.a.toNat + v.toNat + c) % 256 ∧ ShowsResult t.flags t.regs.a ∧
  t.flags.cy = decide (255 < s.regs.a.toNat + v.toNat + c) ∧
  t.flags.ac = decide (15 < s.regs.a.toNat % 16 + v.toNat % 16 + c)

/-- The flags of the difference `r = A - (v + c)` (R161, R164, R177). -/
def ShowsDifference (s : State) (v : Byte) (c : Nat) (r : Byte) (t : State) : Prop :=
  r.toNat = (256 + s.regs.a.toNat - (v.toNat + c)) % 256 ∧ ShowsResult t.flags r ∧
  t.flags.cy = decide (s.regs.a.toNat < v.toNat + c) ∧
  t.flags.ac = decide (v.toNat % 16 + c ≤ s.regs.a.toNat % 16)

/-- A step that enters a handler at `target` from `s` after sampling `i`, the first answer of the
script: pc is pushed, INTE, HALTED and EI_DELAY are cleared, the 8085's state becomes `q`
(spec/60_exceptions.md R266). -/
def Enters (s : State) (i : Inputs) (rest : List Inputs) (q : Irq85) (target : Word) : Prop :=
  ∃ t, step s = .next t ∧
    t = { s with inputs := i, script := rest, irq := q, inte := false, halted := false, eiDelay := false,
                 sp := s.sp - 2, pc := target, mem := t.mem } ∧
    Stored2 s t (s.sp - 1) (highByte s.pc) (s.sp - 2) (lowByte s.pc)

/-- A maskable request can be accepted (R263, R267). -/
def Open (s : State) : Prop := s.inte = true ∧ s.eiDelay = false

/-- The value of a byte read as two decimal digits, and that both digits are decimal. -/
def decimal (x : Byte) : Nat := 10 * (x.toNat / 16) + x.toNat % 16
def IsDecimal (x : Byte) : Prop := x.toNat / 16 ≤ 9 ∧ x.toNat % 16 ≤ 9

/-- A conditional jump (spec/47_branch.md R203). -/
def JumpsIf (s : State) (i : Instr) (taken : Bool) (adr : Word) : Prop :=
  ∃ t, exec i s = .next t ∧
    t = { s with pc := if taken then adr else s.pc + 3, eiDelay := false } ∧ MemorySame s t

/-- A call (spec/48_call_return.md R215): the return address is pushed, pc takes the target. -/
def Calls (s : State) (i : Instr) (ret target : Word) : Prop :=
  ∃ t, exec i s = .next t ∧
    t = { s with sp := s.sp - 2, pc := target, eiDelay := false, mem := t.mem } ∧
    Stored2 s t (s.sp - 1) (highByte ret) (s.sp - 2) (lowByte ret)

/-- A conditional call (R217): taken, it is a call; untaken, it only advances pc. -/
def CallsIf (s : State) (i : Instr) (taken : Bool) (adr : Word) : Prop :=
  (taken = true → Calls s i (s.pc + 3) adr) ∧
  (taken = false → ∃ t, exec i s = .next t ∧
    t = { s with pc := s.pc + 3, eiDelay := false } ∧ MemorySame s t)

/-- A return (R215, R233): pc takes the two bytes at SP, the low one first. -/
def Returns (s : State) (i : Instr) : Prop :=
  ∃ t, exec i s = .next t ∧
    t = { s with sp := s.sp + 2, pc := secondByte s s.sp ++ firstByte s s.sp, eiDelay := false,
                 draws := drawsAfterTwo s s.sp } ∧ MemorySame s t

/-- A conditional return (R234). -/
def ReturnsIf (s : State) (i : Instr) (taken : Bool) : Prop :=
  (taken = true → Returns s i) ∧
  (taken = false → ∃ t, exec i s = .next t ∧
    t = { s with pc := s.pc + 1, eiDelay := false } ∧ MemorySame s t)

end Sys2Proof.Stated

open Sys2Proof Sys2Proof.Machine Sys2Proof.Stated

/-! ## Encoding (spec/30_encoding.md) -/

/-- Tier 3. Decoding the bytes of a well-formed instruction gives the instruction back, whatever bytes
follow them (R83, R96). -/
def Obligations.DecodeUndoesEncode : Prop :=
  ∀ (v : Variant) (i : Instr), i.wellFormed v = true → ∀ x y : Byte,
    decode v ((encode i).getD 0 0) ((encode i).getD 1 x) ((encode i).getD 2 y) = .ok i

/-- What a byte sequence decodes to is well formed, encodes to those bytes, and has the length that the
first byte tells (R80, R81, R96). -/
def Obligations.EncodeUndoesDecode : Prop :=
  ∀ (v : Variant) (op b2 b3 : Byte) (i : Instr), decode v op b2 b3 = .ok i →
    i.wellFormed v = true ∧ encode i = [op, b2, b3].take (opcodeLength op)

/-- The bytes without an instruction are exactly those of R104, and 0x20 and 0x30 on the 8080 (R105);
they are rejected by name. -/
def Obligations.UnassignedBytesAreRejected : Prop :=
  ∀ (v : Variant) (op b2 b3 : Byte),
    (op ∈ unassigned v → decode v op b2 b3 = .error (.unassigned op)) ∧
    (op ∉ unassigned v → ∃ i, decode v op b2 b3 = .ok i)

/-- Words written out from the opcode map (R95) decode to the instructions they stand for. -/
def Obligations.WordsOfTheOpcodeMap : Prop :=
  decode .i8080 0b01000001 0 0 = .ok (.movRR .b .c) ∧
  decode .i8080 0b00100001 0x34 0x12 = .ok (.lxi .hl 0x1234) ∧
  decode .i8080 0b11100011 0 0 = .ok .xthl ∧
  decode .i8080 0b11011011 0x10 0 = .ok (.inPort 0x10) ∧
  decode .i8080 0b00110100 0 0 = .ok .inrM ∧
  decode .i8080 0b10011101 0 0 = .ok (.sbbR .l) ∧
  decode .i8080 0b00111001 0 0 = .ok (.dad .sp) ∧
  decode .i8080 0b11110010 0x00 0x02 = .ok (.jp 0x0200) ∧
  decode .i8080 0b11011111 0 0 = .ok (.rst 3) ∧
  decode .i8085 0b00100000 0 0 = .ok .rim

/-! ## Registers and memory (spec/10_state.md, spec/20_memory.md) -/

/-- A pair is its two registers, the first the high byte, and writing a pair writes both and nothing
else (spec/10_state.md R21). -/
def Obligations.PairsAreTheirRegisters : Prop :=
  ∀ (s : State) (v : Word),
    (s.pair .bc).toNat = 256 * s.regs.b.toNat + s.regs.c.toNat ∧
    (s.pair .de).toNat = 256 * s.regs.d.toNat + s.regs.e.toNat ∧
    (s.pair .hl).toNat = 256 * s.regs.h.toNat + s.regs.l.toNat ∧
    (∀ rp : RegPair, (s.setPair rp v).pair rp = v) ∧
    (∀ rp q : RegPair, q ≠ rp → (s.setPair rp v).pair q = s.pair q) ∧
    (∀ rp : RegPair, s.setPair rp v =
      { s with regs := { (s.setPair rp v).regs with a := s.regs.a }, sp := (s.setPair rp v).sp })

/-- RAM and ROM give their content and nothing changes; ABSENT gives a free value (R55). The form of the
free value is the model's choice: `Config.floatingBus` of the count of draws (log 7), and the count
itself, which each such read advances by 1 (log 12). -/
def Obligations.ReadingAByte : Prop :=
  ∀ (s : State) (adr : Word),
    (s.kindAt adr ≠ .absent → s.memRead adr = (s.content adr, s)) ∧
    (s.kindAt adr = .absent →
      s.memRead adr = (Config.floatingBus s.draws adr, { s with draws := s.draws + 1 }))

/-- R56: RAM takes the byte and every other address reads as before; ROM and ABSENT drop it. -/
def Obligations.WritingAByte : Prop :=
  ∀ (s : State) (adr : Word) (v : Byte),
    (s.kindAt adr = .ram →
      s.memWrite adr v = { s with mem := (s.memWrite adr v).mem } ∧
      ∀ x, (s.memWrite adr v).content x = if x = adr then v else s.content x) ∧
    (s.kindAt adr ≠ .ram → s.memWrite adr v = s)

/-- R58: two bytes are read and written low byte first, the high byte at the next address modulo 2^16;
and a two byte value written into RAM is read back. -/
def Obligations.TwoByteAccesses : Prop :=
  ∀ (s : State) (adr v : Word),
    s.memRead16 adr =
      (((s.memRead adr).2.memRead (adr + 1)).1 ++ (s.memRead adr).1,
        ((s.memRead adr).2.memRead (adr + 1)).2) ∧
    s.memWrite16 adr v =
      (s.memWrite adr (v.extractLsb' 0 8)).memWrite (adr + 1) (v.extractLsb' 8 8) ∧
    (s.kindAt adr = .ram → s.kindAt (adr + 1) = .ram →
      ((s.memWrite16 adr v).memRead16 adr).1 = v)

/-- What push16 stores and what pop16 gives, at any SP (R60, R61). -/
def Obligations.PushAndPop : Prop :=
  ∀ (s : State) (v : Word),
    (s.push16 v = { s with mem := (s.push16 v).mem, sp := s.sp - 2 } ∧
      Stored2 s (s.push16 v) (s.sp - 1) (highByte v) (s.sp - 2) (lowByte v)) ∧
    s.pop16 = (secondByte s s.sp ++ firstByte s s.sp,
      { s with sp := s.sp + 2, draws := drawsAfterTwo s s.sp })

/-- What is pushed into RAM is popped again, and SP is as it was (R60, R61, R66). -/
def Obligations.PopUndoesPush : Prop :=
  ∀ (s : State) (v : Word), s.kindAt (s.sp - 1) = .ram → s.kindAt (s.sp - 2) = .ram →
    (s.push16 v).pop16.1 = v ∧ (s.push16 v).pop16.2.sp = s.sp

/-- A byte stored where the next instruction begins is the opcode byte that the next fetch reads
(R70). -/
def Obligations.TheNextFetchSeesTheStore : Prop :=
  ∀ s : State, s.kindAt (s.pc + 3) = .ram →
    ∃ t, exec (.sta (s.pc + 3)) s = .next t ∧ t.pc = s.pc + 3 ∧ t.fetch.1.op = s.regs.a

/-! ## One step (spec/10_state.md R27, spec/60_exceptions.md, spec/70_reset_and_hazards.md) -/

/-- With no event at the boundary and HALTED = 0, a step is `exec` of the instruction that the fetched
bytes decode to, at the state after the fetch (R27). The second conjunct says what that state is, by the
model's choices: the step takes the head of the script, and the inputs are quiet after its end (log 10);
`exec` sees the inputs, and on the 8085 the latch I75 with an edge of RST 7.5 (spec/60_exceptions.md
R280), as sampled at the boundary (log 20); the fetch may move the count of draws (log 12). Nothing else
changes. -/
def Obligations.StepRunsTheDecodedInstruction : Prop :=
  ∀ (s : State) (i : Instr),
    s.sampleInputs.boundaryEvent = none → s.halted = false →
    decode s.platform.variant s.sampleInputs.fetch.1.op s.sampleInputs.fetch.1.b2
      s.sampleInputs.fetch.1.b3 = .ok i →
    step s = exec i s.sampleInputs.fetch.2 ∧
    s.sampleInputs.fetch.2 =
      { s with inputs := s.script.headD Inputs.quiet, script := s.script.tail,
               irq := { s.irq with
                        i75 := s.irq.i75 || (decide (s.platform.variant = .i8085) &&
                          (s.script.headD Inputs.quiet).rst75Edge) },
               draws := s.sampleInputs.fetch.2.draws }

/-- Where the bytes at pc, pc+1, pc+2 are those of a well-formed instruction, in RAM or ROM, a step with
no event and HALTED = 0 runs it (R27, spec/30_encoding.md R80), on the inputs sampled at the boundary, by
the model's choices of logs 10 and 20. -/
def Obligations.AStoredInstructionRuns : Prop :=
  ∀ (s : State) (i : Instr),
    i.wellFormed s.platform.variant = true →
    (∀ k : Nat, k < (encode i).length →
      s.kindAt (s.pc + BitVec.ofNat 16 k) ≠ .absent ∧
      s.content (s.pc + BitVec.ofNat 16 k) = (encode i).getD k 0) →
    s.sampleInputs.boundaryEvent = none → s.halted = false →
    step s = exec i s.sampleInputs

/-- R268: a halted machine stays as it is until an event; an event ends the halt and, but for reset,
pushes the pc of the halted machine; with INTE = 0 only TRAP and reset are events. That a step while
halted is one more boundary, with the next answer of the script, is the model's choice (logs 10, 19, 20). -/
def Obligations.TheHaltedState : Prop :=
  ∀ s : State, s.halted = true →
    (s.sampleInputs.boundaryEvent = none → step s = .next s.sampleInputs) ∧
    (∀ t, step s = .next t → (t.halted = false ↔ ∃ e, s.sampleInputs.boundaryEvent = some e)) ∧
    (s.inte = false → s.sampleInputs.boundaryEvent ∈ [none, some .reset, some .trap]) ∧
    (∀ t e, s.sampleInputs.boundaryEvent = some e → e ≠ .reset → step s = .next t →
      t.sp = s.sp - 2 ∧ Stored2 s t (s.sp - 1) (highByte s.pc) (s.sp - 2) (lowByte s.pc))

/-- TRAP is taken at any boundary without reset, whatever INTE, the masks and EI_DELAY are; the INTE of
before is remembered (R281). That the memory of it is a field, and that the last TRAP wins, is the
model's choice (log 14); that `trap` means risen and stayed high is its reading of R280 (log 15); that the
inputs are the head of a script, sampled at the boundary, is its choice (logs 10, 20). -/
def Obligations.TrapIsAlwaysTaken : Prop :=
  ∀ (s : State) (i : Inputs) (rest : List Inputs),
    s.platform.variant = .i8085 → s.script = i :: rest → i.reset = false → i.trap = true →
    Enters s i rest
      { s.irq with i75 := s.irq.i75 || i.rst75Edge, trapInte := some s.inte } 0x0024

/-- R282: RST 7.5, latched before or by an edge at this boundary, is taken exactly under these
conditions, and this is its entry. That the inputs are the head of a script and
that an edge at the boundary is latched before the test are the model's choices (logs 10, 20). -/
def Obligations.Rst75IsTaken : Prop :=
  ∀ (s : State) (i : Inputs) (rest : List Inputs), s.script = i :: rest → i.reset = false →
    (s.platform.variant = .i8085 → i.trap = false → Open s →
      (s.irq.i75 || i.rst75Edge) = true → s.irq.m75 = false →
      Enters s i rest { s.irq with i75 := false } 0x003C) ∧
    (s.sampleInputs.boundaryEvent = some .rst75 →
      s.platform.variant = .i8085 ∧ i.trap = false ∧ Open s ∧
      (s.irq.i75 || i.rst75Edge) = true ∧ s.irq.m75 = false)

/-- R283 and R284: RST 6.5, and RST 5.5 below it, are taken exactly under these conditions, and these
are their entries. The script, and the edge of RST 7.5 latched before the test, are the model's choices
(logs 10, 20). -/
def Obligations.Rst65AndRst55AreTaken : Prop :=
  ∀ (s : State) (i : Inputs) (rest : List Inputs), s.script = i :: rest → i.reset = false →
    (s.platform.variant = .i8085 → i.trap = false → Open s →
      ((s.irq.i75 || i.rst75Edge) && !s.irq.m75) = false → (i.rst65 && !s.irq.m65) = true →
      Enters s i rest { s.irq with i75 := s.irq.i75 || i.rst75Edge } 0x0034) ∧
    (s.platform.variant = .i8085 → i.trap = false → Open s →
      ((s.irq.i75 || i.rst75Edge) && !s.irq.m75) = false → (i.rst65 && !s.irq.m65) = false →
      (i.rst55 && !s.irq.m55) = true →
      Enters s i rest { s.irq with i75 := s.irq.i75 || i.rst75Edge } 0x002C) ∧
    (s.sampleInputs.boundaryEvent = some .rst65 →
      s.platform.variant = .i8085 ∧ i.trap = false ∧ Open s ∧
      ((s.irq.i75 || i.rst75Edge) && !s.irq.m75) = false ∧ (i.rst65 && !s.irq.m65) = true) ∧
    (s.sampleInputs.boundaryEvent = some .rst55 →
      s.platform.variant = .i8085 ∧ i.trap = false ∧ Open s ∧
      ((s.irq.i75 || i.rst75Edge) && !s.irq.m75) = false ∧ (i.rst65 && !s.irq.m65) = false ∧
      (i.rst55 && !s.irq.m55) = true)

/-- R266: the maskable request with restart number N, on the 8080 and, below the four inputs of its own,
on the 8085; while INTE = 0 or EI_DELAY = 1 nothing happens at this boundary. The script, and
the edge of RST 7.5 latched before the test, are the model's choices (logs 10, 20). -/
def Obligations.TheMaskableInterrupt : Prop :=
  ∀ (s : State) (i : Inputs) (rest : List Inputs) (n : BitVec 3),
    s.script = i :: rest → i.reset = false → i.intr = .rst n →
    (s.platform.variant = .i8080 → Open s → ∃ target : Word, target.toNat = 8 * n.toNat ∧
      Enters s i rest s.irq target) ∧
    (s.platform.variant = .i8085 → Open s → i.trap = false →
      ((s.irq.i75 || i.rst75Edge) && !s.irq.m75) = false →
      (i.rst65 && !s.irq.m65) = false → (i.rst55 && !s.irq.m55) = false →
      ∃ target : Word, target.toNat = 8 * n.toNat ∧
        Enters s i rest { s.irq with i75 := s.irq.i75 || i.rst75Edge } target) ∧
    ((s.inte = false ∨ s.eiDelay = true) → (s.platform.variant = .i8085 → i.trap = false) →
      s.sampleInputs.boundaryEvent = none)

/-- A step is refused exactly when an interrupt is accepted whose device supplies another instruction
than RST N (R269; that only an accepted request is refused is the model's reading, log 16), or, with no
event and HALTED = 0, the opcode byte fetched has no instruction (R104, R105). The inputs are sampled from
the script at the boundary (logs 10, 20). -/
def Obligations.RefusedExactlyWhen : Prop :=
  ∀ (s : State) (r : Refusal), step s = .refused r ↔
    (∃ op, s.sampleInputs.boundaryEvent = some (.injected op) ∧ r = .injectedInstruction op) ∨
    (s.sampleInputs.boundaryEvent = none ∧ s.halted = false ∧
      s.sampleInputs.fetch.1.op ∈ unassigned s.platform.variant ∧
      r = .unassignedOpcode s.sampleInputs.fetch.1.op)

/-- R267: EI sets EI_DELAY, every other instruction and every event clears it; while it is 1 no maskable
event happens, TRAP does. -/
def Obligations.EiDelayBookkeeping : Prop :=
  (∀ (i : Instr) (s t : State), exec i s = .next t → t.eiDelay = decide (i = .ei)) ∧
  (∀ (e : BoundaryEvent) (s t : State), takeEvent e s = .next t → t.eiDelay = false) ∧
  (∀ s : State, s.eiDelay = true → s.boundaryEvent ∈ [none, some .reset, some .trap]) ∧
  (∀ s : State, s.platform.variant = .i8085 → s.inputs.reset = false → s.inputs.trap = true →
    s.boundaryEvent = some .trap)

/-- INTE goes from 0 to 1 only in a step that runs EI (spec/10_state.md R36, R263), with the inputs
sampled from the script at the boundary (logs 10, 20). -/
def Obligations.OnlyEiEnablesInterrupts : Prop :=
  ∀ s t : State, step s = .next t → s.inte = false → t.inte = true →
    s.sampleInputs.boundaryEvent = none ∧ s.halted = false ∧
    decode s.platform.variant s.sampleInputs.fetch.1.op s.sampleInputs.fetch.1.b2
      s.sampleInputs.fetch.1.b3 = .ok .ei

/-- Reset gives the control state of R301 and leaves ROM and what is outside the processor; the registers,
the flags, SP and RAM may be anything. The model's choices: reset is one answer of the script (log 10),
taken at a boundary before every other event, and what R301 leaves unspecified becomes free values
(log 17), with one reset more counted (log 12); the 8085's masks, I75 and SOD, which R301 lists for the
8085 only, have the same values on the 8080 (log 13); the memory of a TRAP is forgotten (log 14). -/
def Obligations.ResetDuringARun : Prop :=
  ∀ (s : State) (i : Inputs) (rest : List Inputs), s.script = i :: rest → i.reset = true →
    ∃ t, step s = .next t ∧
      t = { s with inputs := i, script := rest, pc := 0x0000, inte := false, halted := false,
                   eiDelay := false, irq := irqAtReset, regs := t.regs, flags := t.flags, sp := t.sp,
                   mem := t.mem, resets := s.resets + 1 } ∧
      (t.irq.m55 = true ∧ t.irq.m65 = true ∧ t.irq.m75 = true ∧ t.irq.i75 = false ∧
        t.irq.sod = false) ∧
      ∀ x, s.kindAt x = .rom → t.content x = s.content x

/-- The state after power-on, for every value of what is unspecified, and that State.reset is one of
these states (R44). The model's choices in it: memory that nothing has written reads as a free value,
`Config.ramAtReset` in RAM and `Config.romContents` in ROM (log 6), and the masks, I75 and SOD are held
at the same values on the 8080, which has none (log 13). That State.reset has 0 in the registers, SP
and the flags is the model's choice too (logs 3 to 5) and is not stated. -/
def Obligations.TheStateAfterReset : Prop :=
  (∀ (p : Platform) (regs : Regs) (flags : Flags) (sp : Word),
    let s := State.powerOn p regs flags sp
    s.pc = 0x0000 ∧ s.inte = false ∧ s.halted = false ∧ s.eiDelay = false ∧
    s.irq.m55 = true ∧ s.irq.m65 = true ∧ s.irq.m75 = true ∧ s.irq.i75 = false ∧ s.irq.sod = false ∧
    (∀ x, s.content x =
      if s.kindAt x = .rom then Config.romContents x else Config.ramAtReset 0 x)) ∧
  ∃ p regs flags sp, State.reset = State.powerOn p regs flags sp

/-! ## Invariants -/

/-- Tier 3. From every state of good form, a step that answers a next state answers one of good form:
EI_DELAY only while INTE = 1 and HALTED = 0 (spec/10_state.md R38), memory canonical (R41, its form the
model's choice, log 6), and on the 8080 the 8085's state (R39) at its reset values (the model's choice,
log 13). -/
def Obligations.StepKeepsGoodForm : Prop :=
  ∀ s t : State, s.wf = true → step s = .next t → t.wf = true

/-- The state after reset is of good form; what that is rests on logs 6 and 13, as above. -/
def Obligations.ResetIsOfGoodForm : Prop := State.reset.wf = true

/-- No step changes the platform, whose place in State is the model's choice (logs 1, 2; the parameters of
spec/00_scope.md R7); a step appends at most one event to the I/O trace, held as a list by the model's
choice (log 9; the events are those of spec/20_memory.md R62, R63); the count of draws, the model's own
bookkeeping (log 12), never falls. -/
def Obligations.StepKeepsPlatformAndTrace : Prop :=
  ∀ s t : State, step s = .next t →
    t.platform = s.platform ∧ (t.io = s.io ∨ ∃ ev, t.io = s.io ++ [ev]) ∧ s.draws ≤ t.draws

/-- No step changes what a ROM address reads as (spec/20_memory.md R56, R66), an event included: that
reset is taken at a boundary and keeps the listed bytes of ROM is the model's choice (log 17), and so is
the map that no step changes (log 2). -/
def Obligations.RomNeverChanges : Prop :=
  ∀ (s t : State) (x : Word), step s = .next t → s.kindAt x = .rom → t.content x = s.content x

/-! ## One byte transfers (spec/40_transfer_one_byte.md) -/

/-- R110 MOV R1, R2 and R113 MVI R, D8. -/
def Obligations.MovesIntoARegister : Prop :=
  (∀ (s : State) (dst src : Reg), IsF1 (0b01#2 ++ dst.code ++ src.code) (.movRR dst src) ∧
    ∃ t, exec (.movRR dst src) s = .next t ∧
      t = { s with regs := t.regs, pc := s.pc + 1, eiDelay := false } ∧
      (∀ r, t.reg r = if r = dst then s.reg src else s.reg r) ∧ MemorySame s t) ∧
  (∀ (s : State) (dst : Reg) (d8 : Byte), IsF2 (0b00#2 ++ dst.code ++ 0b110#3) (.mviR dst) ∧
    ∃ t, exec (.mviR dst d8) s = .next t ∧
      t = { s with regs := t.regs, pc := s.pc + 2, eiDelay := false } ∧
      (∀ r, t.reg r = if r = dst then d8 else s.reg r) ∧ MemorySame s t)

/-- R111 MOV R, M, R116 LDAX and R118 LDA: the byte read at the address, in one register. -/
def Obligations.LoadsOfAByte : Prop :=
  (∀ (s : State) (dst : Reg), IsF1 (0b01#2 ++ dst.code ++ 0b110#3) (.movRM dst) ∧
    ∃ t, exec (.movRM dst) s = .next t ∧
      t = { s with regs := t.regs, pc := s.pc + 1, eiDelay := false,
                   draws := (s.memRead s.hl).2.draws } ∧
      (∀ r, t.reg r = if r = dst then (s.memRead s.hl).1 else s.reg r) ∧ MemorySame s t) ∧
  (∀ (s : State) (rp : IndexPair), IsF1 (0b000#3 ++ rp.code ++ 0b1010#4) (.ldax rp) ∧
    ∃ t, exec (.ldax rp) s = .next t ∧
      t = { s with regs := t.regs, pc := s.pc + 1, eiDelay := false,
                   draws := (s.memRead (s.indexAddress rp)).2.draws } ∧
      (∀ r, t.reg r = if r = .a then (s.memRead (s.indexAddress rp)).1 else s.reg r) ∧
      MemorySame s t) ∧
  (∀ (s : State) (adr : Word), IsF3 0b00111010 .lda ∧
    ∃ t, exec (.lda adr) s = .next t ∧
      t = { s with regs := t.regs, pc := s.pc + 3, eiDelay := false,
                   draws := (s.memRead adr).2.draws } ∧
      (∀ r, t.reg r = if r = .a then (s.memRead adr).1 else s.reg r) ∧ MemorySame s t)

/-- R112 MOV M, R, R114 MVI M, D8, R115 STAX and R117 STA: one byte stored. -/
def Obligations.StoresOfAByte : Prop :=
  (∀ (s : State) (src : Reg), IsF1 (0b01110#5 ++ src.code) (.movMR src) ∧
    ∃ t, exec (.movMR src) s = .next t ∧
      t = { s with mem := t.mem, pc := s.pc + 1, eiDelay := false } ∧ Stored s t s.hl (s.reg src)) ∧
  (∀ (s : State) (d8 : Byte), IsF2 0b00110110 .mviM ∧
    ∃ t, exec (.mviM d8) s = .next t ∧
      t = { s with mem := t.mem, pc := s.pc + 2, eiDelay := false } ∧ Stored s t s.hl d8) ∧
  (∀ (s : State) (rp : IndexPair), IsF1 (0b000#3 ++ rp.code ++ 0b0010#4) (.stax rp) ∧
    ∃ t, exec (.stax rp) s = .next t ∧
      t = { s with mem := t.mem, pc := s.pc + 1, eiDelay := false } ∧
      Stored s t (s.indexAddress rp) s.regs.a) ∧
  (∀ (s : State) (adr : Word), IsF3 0b00110010 .sta ∧
    ∃ t, exec (.sta adr) s = .next t ∧
      t = { s with mem := t.mem, pc := s.pc + 3, eiDelay := false } ∧ Stored s t adr s.regs.a)

/-! ## Two bytes transfers (spec/41_transfer_two_bytes.md) -/

/-- R120 LXI, for each of the four pairs, and R128 SPHL. -/
def Obligations.LoadsOfAPairAndOfSP : Prop :=
  (∀ (s : State) (rp : RegPair) (d16 : Word), IsF3 (0b00#2 ++ rp.code ++ 0b0001#4) (.lxi rp) ∧
    ∃ t, exec (.lxi rp d16) s = .next t ∧
      t = { s with regs := { t.regs with a := s.regs.a }, sp := t.sp, pc := s.pc + 3,
                   eiDelay := false } ∧
      (∀ q, t.pair q = if q = rp then d16 else s.pair q) ∧ MemorySame s t) ∧
  (∀ s : State, IsF1 0b11111001 .sphl ∧
    ∃ t, exec .sphl s = .next t ∧
      t = { s with sp := s.hl, pc := s.pc + 1, eiDelay := false } ∧ MemorySame s t)

/-- R121 SHLD and R122 LHLD: L at the address, H at the next one modulo 2^16. -/
def Obligations.HLDirect : Prop :=
  (∀ (s : State) (adr : Word), IsF3 0b00100010 .shld ∧
    ∃ t, exec (.shld adr) s = .next t ∧
      t = { s with mem := t.mem, pc := s.pc + 3, eiDelay := false } ∧
      Stored2 s t adr s.regs.l (adr + 1) s.regs.h) ∧
  (∀ (s : State) (adr : Word), IsF3 0b00101010 .lhld ∧
    ∃ t, exec (.lhld adr) s = .next t ∧
      t = { s with regs := { s.regs with l := firstByte s adr, h := secondByte s adr },
                   pc := s.pc + 3, eiDelay := false, draws := drawsAfterTwo s adr } ∧
      MemorySame s t)

/-- R123 PUSH RP: the high register at SP-1, the low one at SP-2. -/
def Obligations.PushOfAPair : Prop :=
  ∀ (s : State) (rp : StackPair), IsF1 (0b11#2 ++ rp.code ++ 0b0101#4) (.pushRP rp) ∧
    ∃ t, exec (.pushRP rp) s = .next t ∧
      t = { s with mem := t.mem, sp := s.sp - 2, pc := s.pc + 1, eiDelay := false } ∧
      (rp = .bc → Stored2 s t (s.sp - 1) s.regs.b (s.sp - 2) s.regs.c) ∧
      (rp = .de → Stored2 s t (s.sp - 1) s.regs.d (s.sp - 2) s.regs.e) ∧
      (rp = .hl → Stored2 s t (s.sp - 1) s.regs.h (s.sp - 2) s.regs.l)

/-- R125 PUSH PSW: A at SP-1, the byte F at SP-2; its bits 5 and 1 are 0 and 1 on the 8080 and anything
on the 8085, by one draw of the model's count (logs 11, 12). -/
def Obligations.PushOfPSW : Prop :=
  ∀ s : State, IsF1 0b11110101 .pushPsw ∧
    ∃ (t : State) (f : Byte), exec .pushPsw s = .next t ∧
      t = { s with mem := t.mem, sp := s.sp - 2, pc := s.pc + 1, eiDelay := false, draws := t.draws } ∧
      Stored2 s t (s.sp - 1) s.regs.a (s.sp - 2) f ∧
      f.getLsbD 7 = s.flags.s ∧ f.getLsbD 6 = s.flags.z ∧ f.getLsbD 4 = s.flags.ac ∧
      f.getLsbD 3 = false ∧ f.getLsbD 2 = s.flags.p ∧ f.getLsbD 0 = s.flags.cy ∧
      (s.platform.variant = .i8080 → f.getLsbD 5 = false ∧ f.getLsbD 1 = true ∧ t.draws = s.draws) ∧
      (s.platform.variant = .i8085 → t.draws = s.draws + 1)

/-- R126 POP RP: the low register from SP, the high one from SP+1. -/
def Obligations.PopOfAPair : Prop :=
  ∀ (s : State) (rp : StackPair), IsF1 (0b11#2 ++ rp.code ++ 0b0001#4) (.popRP rp) ∧
    ∃ t, exec (.popRP rp) s = .next t ∧
      t = { s with regs := t.regs, sp := s.sp + 2, pc := s.pc + 1, eiDelay := false,
                   draws := drawsAfterTwo s s.sp } ∧
      (rp = .bc → t.regs = { s.regs with c := firstByte s s.sp, b := secondByte s s.sp }) ∧
      (rp = .de → t.regs = { s.regs with e := firstByte s s.sp, d := secondByte s s.sp }) ∧
      (rp = .hl → t.regs = { s.regs with l := firstByte s s.sp, h := secondByte s s.sp }) ∧
      MemorySame s t

/-- R127 POP PSW: the five flags are bits 7, 6, 4, 2, 0 of the byte at SP, A is the byte at SP+1. -/
def Obligations.PopOfPSW : Prop :=
  ∀ s : State, IsF1 0b11110001 .popPsw ∧
    ∃ t, exec .popPsw s = .next t ∧
      t = { s with regs := { s.regs with a := secondByte s s.sp }, flags := t.flags, sp := s.sp + 2,
                   pc := s.pc + 1, eiDelay := false, draws := drawsAfterTwo s s.sp } ∧
      t.flags.s = (firstByte s s.sp).getLsbD 7 ∧ t.flags.z = (firstByte s s.sp).getLsbD 6 ∧
      t.flags.ac = (firstByte s s.sp).getLsbD 4 ∧ t.flags.p = (firstByte s s.sp).getLsbD 2 ∧
      t.flags.cy = (firstByte s s.sp).getLsbD 0 ∧ MemorySame s t

/-! ## Exchanges (spec/42_exchange.md), input and output (spec/43_input_output.md) -/

/-- R130 XCHG and R131 XTHL: both reads before both writes. -/
def Obligations.Exchanges : Prop :=
  (∀ s : State, IsF1 0b11101011 .xchg ∧
    ∃ t, exec .xchg s = .next t ∧
      t = { s with regs := { s.regs with h := s.regs.d, l := s.regs.e, d := s.regs.h, e := s.regs.l },
                   pc := s.pc + 1, eiDelay := false } ∧ MemorySame s t) ∧
  (∀ s : State, IsF1 0b11100011 .xthl ∧
    ∃ t, exec .xthl s = .next t ∧
      t = { s with regs := { s.regs with l := firstByte s s.sp, h := secondByte s s.sp },
                   mem := t.mem, pc := s.pc + 1, eiDelay := false, draws := drawsAfterTwo s s.sp } ∧
      Stored2 s t (s.sp + 1) s.regs.h s.sp s.regs.l)

/-- R135 IN and R136 OUT: A takes what the environment answers, the script's byte if it gives one, else
the oracle's (log 8, drawn by the count of log 12); A is written out; each is one event of the trace, a
list by the model's choice (log 9). -/
def Obligations.PortsInAndOut : Prop :=
  (∀ (s : State) (port : Byte), IsF2 0b11011011 .inPort ∧
    ∃ (t : State) (v : Byte), exec (.inPort port) s = .next t ∧
      t = { s with regs := { s.regs with a := v }, pc := s.pc + 2, eiDelay := false,
                   io := s.io ++ [.read port v], draws := t.draws } ∧
      (∀ w, s.inputs.portData = some w → v = w ∧ t.draws = s.draws) ∧
      (s.inputs.portData = none →
        v = Config.inPort port s.io s.draws ∧ t.draws = s.draws + 1) ∧ MemorySame s t) ∧
  (∀ (s : State) (port : Byte), IsF2 0b11010011 .outPort ∧
    ∃ t, exec (.outPort port) s = .next t ∧
      t = { s with pc := s.pc + 2, eiDelay := false, io := s.io ++ [.write port s.regs.a] } ∧
      MemorySame s t)

/-! ## One operand (spec/44_alu_one_operand.md) -/

/-- R140 CMC, R141 STC and R142 CMA. -/
def Obligations.CarryAndComplement : Prop :=
  (∀ s : State, IsF1 0b00111111 .cmc ∧
    ∃ t, exec .cmc s = .next t ∧
      t = { s with flags := { s.flags with cy := t.flags.cy }, pc := s.pc + 1, eiDelay := false } ∧
      t.flags.cy.toNat = 1 - s.flags.cy.toNat ∧ MemorySame s t) ∧
  (∀ s : State, IsF1 0b00110111 .stc ∧
    ∃ t, exec .stc s = .next t ∧
      t = { s with flags := { s.flags with cy := true }, pc := s.pc + 1, eiDelay := false } ∧
      MemorySame s t) ∧
  (∀ s : State, IsF1 0b00101111 .cma ∧
    ∃ t, exec .cma s = .next t ∧
      t = { s with regs := { s.regs with a := t.regs.a }, pc := s.pc + 1, eiDelay := false } ∧
      t.regs.a.toNat = 255 - s.regs.a.toNat ∧ MemorySame s t)

/-- R143 INR R and R145 DCR R: S, Z, AC, P; CY as it was. -/
def Obligations.IncrementAndDecrementOfARegister : Prop :=
  (∀ (s : State) (r : Reg), IsF1 (0b00#2 ++ r.code ++ 0b100#3) (.inrR r) ∧
    ∃ t, exec (.inrR r) s = .next t ∧
      t = { s with regs := t.regs, flags := t.flags, pc := s.pc + 1, eiDelay := false } ∧
      (t.reg r).toNat = ((s.reg r).toNat + 1) % 256 ∧ (∀ q, q ≠ r → t.reg q = s.reg q) ∧
      ShowsResult t.flags (t.reg r) ∧ t.flags.ac = decide ((s.reg r).toNat % 16 = 15) ∧
      t.flags.cy = s.flags.cy ∧ MemorySame s t) ∧
  (∀ (s : State) (r : Reg), IsF1 (0b00#2 ++ r.code ++ 0b101#3) (.dcrR r) ∧
    ∃ t, exec (.dcrR r) s = .next t ∧
      t = { s with regs := t.regs, flags := t.flags, pc := s.pc + 1, eiDelay := false } ∧
      (t.reg r).toNat = ((s.reg r).toNat + 255) % 256 ∧ (∀ q, q ≠ r → t.reg q = s.reg q) ∧
      ShowsResult t.flags (t.reg r) ∧ t.flags.ac = decide ((s.reg r).toNat % 16 ≠ 0) ∧
      t.flags.cy = s.flags.cy ∧ MemorySame s t)

/-- R144 INR M and R146 DCR M: the byte at HL, written back; the flags are those of the computed byte
even where the write is dropped. -/
def Obligations.IncrementAndDecrementOfMemory : Prop :=
  (∀ s : State, IsF1 0b00110100 .inrM ∧
    ∃ (t : State) (r : Byte), exec .inrM s = .next t ∧
      t = { s with mem := t.mem, flags := t.flags, pc := s.pc + 1, eiDelay := false,
                   draws := (s.memRead s.hl).2.draws } ∧
      r.toNat = ((s.memRead s.hl).1.toNat + 1) % 256 ∧ Stored s t s.hl r ∧
      ShowsResult t.flags r ∧ t.flags.ac = decide ((s.memRead s.hl).1.toNat % 16 = 15) ∧
      t.flags.cy = s.flags.cy) ∧
  (∀ s : State, IsF1 0b00110101 .dcrM ∧
    ∃ (t : State) (r : Byte), exec .dcrM s = .next t ∧
      t = { s with mem := t.mem, flags := t.flags, pc := s.pc + 1, eiDelay := false,
                   draws := (s.memRead s.hl).2.draws } ∧
      r.toNat = ((s.memRead s.hl).1.toNat + 255) % 256 ∧ Stored s t s.hl r ∧
      ShowsResult t.flags r ∧ t.flags.ac = decide ((s.memRead s.hl).1.toNat % 16 ≠ 0) ∧
      t.flags.cy = s.flags.cy)

/-- R147 INX and R148 DCX, modulo 2^16 and without a flag, for each of the four pairs. -/
def Obligations.IncrementAndDecrementOfAPair : Prop :=
  (∀ (s : State) (rp : RegPair), IsF1 (0b00#2 ++ rp.code ++ 0b0011#4) (.inx rp) ∧
    ∃ t, exec (.inx rp) s = .next t ∧
      t = { s with regs := { t.regs with a := s.regs.a }, sp := t.sp, pc := s.pc + 1,
                   eiDelay := false } ∧
      (t.pair rp).toNat = ((s.pair rp).toNat + 1) % 65536 ∧ (∀ q, q ≠ rp → t.pair q = s.pair q) ∧
      MemorySame s t) ∧
  (∀ (s : State) (rp : RegPair), IsF1 (0b00#2 ++ rp.code ++ 0b1011#4) (.dcx rp) ∧
    ∃ t, exec (.dcx rp) s = .next t ∧
      t = { s with regs := { t.regs with a := s.regs.a }, sp := t.sp, pc := s.pc + 1,
                   eiDelay := false } ∧
      (t.pair rp).toNat = ((s.pair rp).toNat + 65535) % 65536 ∧ (∀ q, q ≠ rp → t.pair q = s.pair q) ∧
      MemorySame s t)

/-- R149 DAA, with `lo` and `hi` the digits of A. -/
def Obligations.DecimalAdjustment : Prop :=
  ∀ s : State, IsF1 0b00100111 .daa ∧
    ∃ t, exec .daa s = .next t ∧ OnlyAccumulator s t 1 s.draws ∧
      let lo := s.regs.a.toNat % 16
      let hi := s.regs.a.toNat / 16
      let low6 := decide (9 < lo) || s.flags.ac
      let high6 := decide (9 < hi) || s.flags.cy || (decide (9 ≤ hi) && decide (9 < lo))
      t.regs.a.toNat =
        (s.regs.a.toNat + (if low6 then 6 else 0) + (if high6 then 96 else 0)) % 256 ∧
      ShowsResult t.flags t.regs.a ∧
      t.flags.ac = (low6 && decide (10 ≤ lo)) ∧ t.flags.cy = (s.flags.cy || high6)

/-- ADC followed by DAA adds two numbers of two decimal digits, with the carry in and out (the purpose
of R149). -/
def Obligations.DecimalAddition : Prop :=
  ∀ (s : State) (src : Reg), IsDecimal s.regs.a → IsDecimal (s.reg src) →
    ∃ t u, exec (.adcR src) s = .next t ∧ exec .daa t = .next u ∧ IsDecimal u.regs.a ∧
      decimal u.regs.a = (decimal s.regs.a + decimal (s.reg src) + s.flags.cy.toNat) % 100 ∧
      u.flags.cy = decide (99 < decimal s.regs.a + decimal (s.reg src) + s.flags.cy.toNat)

/-! ## Two operands (spec/45_alu_two_operands.md) -/

/-- R155 to R160: ADD, ADI, ADC and ACI in all forms. -/
def Obligations.Additions : Prop :=
  AluForms 0b000 .addR .addM .adi (fun s v t => AddsInto s v 0 t) ∧
  AluForms 0b001 .adcR .adcM .aci (fun s v t => AddsInto s v s.flags.cy.toNat t)

/-- R161 to R166: SUB, SUI, SBB and SBI in all forms. -/
def Obligations.Subtractions : Prop :=
  AluForms 0b010 .subR .subM .sui (fun s v t => ShowsDifference s v 0 t.regs.a t) ∧
  AluForms 0b011 .sbbR .sbbM .sbi (fun s v t => ShowsDifference s v s.flags.cy.toNat t.regs.a t)

/-- R167 to R169 with R172: ANA and ANI; AC by the variant. -/
def Obligations.LogicalAnd : Prop :=
  AluForms 0b100 .anaR .anaM .ani (fun s v t =>
    t.regs.a = s.regs.a &&& v ∧ ShowsResult t.flags t.regs.a ∧ t.flags.cy = false ∧
    (s.platform.variant = .i8080 → t.flags.ac = (s.regs.a.getLsbD 3 || v.getLsbD 3)) ∧
    (s.platform.variant = .i8085 → t.flags.ac = true))

/-- R170, R171, R173 to R176: XRA, XRI, ORA and ORI; CY and AC are 0. -/
def Obligations.LogicalOrs : Prop :=
  AluForms 0b101 .xraR .xraM .xri (fun s v t =>
    (∀ k, t.regs.a.getLsbD k = (s.regs.a.getLsbD k ^^ v.getLsbD k)) ∧
    ShowsResult t.flags t.regs.a ∧ t.flags.cy = false ∧ t.flags.ac = false) ∧
  AluForms 0b110 .oraR .oraM .ori (fun s v t =>
    (∀ k, t.regs.a.getLsbD k = (s.regs.a.getLsbD k || v.getLsbD k)) ∧
    ShowsResult t.flags t.regs.a ∧ t.flags.cy = false ∧ t.flags.ac = false)

/-- R177 to R179: CMP and CPI set the flags of the difference, and leave A. -/
def Obligations.Comparisons : Prop :=
  AluForms 0b111 .cmpR .cmpM .cpi (fun s v t =>
    t.regs.a = s.regs.a ∧ ∃ r : Byte, ShowsDifference s v 0 r t)

/-! ## Rotations and DAD (spec/46_rotate_and_dad.md) -/

/-- R190 RLC, R191 RRC, R192 RAL and R193 RAR, bit by bit; CY is the one flag written. -/
def Obligations.Rotations : Prop :=
  ∀ s : State,
    (IsF1 0b00000111 .rlc ∧ ∃ t, exec .rlc s = .next t ∧ OnlyAccumulator s t 1 s.draws ∧
      (∀ k, k < 7 → t.regs.a.getLsbD (k + 1) = s.regs.a.getLsbD k) ∧
      t.regs.a.getLsbD 0 = s.regs.a.getLsbD 7 ∧
      t.flags = { s.flags with cy := s.regs.a.getLsbD 7 }) ∧
    (IsF1 0b00001111 .rrc ∧ ∃ t, exec .rrc s = .next t ∧ OnlyAccumulator s t 1 s.draws ∧
      (∀ k, k < 7 → t.regs.a.getLsbD k = s.regs.a.getLsbD (k + 1)) ∧
      t.regs.a.getLsbD 7 = s.regs.a.getLsbD 0 ∧
      t.flags = { s.flags with cy := s.regs.a.getLsbD 0 }) ∧
    (IsF1 0b00010111 .ral ∧ ∃ t, exec .ral s = .next t ∧ OnlyAccumulator s t 1 s.draws ∧
      (∀ k, k < 7 → t.regs.a.getLsbD (k + 1) = s.regs.a.getLsbD k) ∧
      t.regs.a.getLsbD 0 = s.flags.cy ∧
      t.flags = { s.flags with cy := s.regs.a.getLsbD 7 }) ∧
    (IsF1 0b00011111 .rar ∧ ∃ t, exec .rar s = .next t ∧ OnlyAccumulator s t 1 s.draws ∧
      (∀ k, k < 7 → t.regs.a.getLsbD k = s.regs.a.getLsbD (k + 1)) ∧
      t.regs.a.getLsbD 7 = s.flags.cy ∧
      t.flags = { s.flags with cy := s.regs.a.getLsbD 0 })

/-- R194 DAD, for each of the four pairs: the sum modulo 2^16, CY the carry out of bit 15. -/
def Obligations.DoubleAddition : Prop :=
  ∀ (s : State) (rp : RegPair), IsF1 (0b00#2 ++ rp.code ++ 0b1001#4) (.dad rp) ∧
    ∃ t, exec (.dad rp) s = .next t ∧
      t = { s with regs := { s.regs with h := t.regs.h, l := t.regs.l },
                   flags := { s.flags with cy := decide (65535 < s.hl.toNat + (s.pair rp).toNat) },
                   pc := s.pc + 1, eiDelay := false } ∧
      t.hl.toNat = (s.hl.toNat + (s.pair rp).toNat) % 65536 ∧ MemorySame s t

/-! ## Branches (spec/47_branch.md) -/

/-- R200 PCHL and R201 JMP. -/
def Obligations.UnconditionalJumps : Prop :=
  (∀ s : State, IsF1 0b11101001 .pchl ∧
    ∃ t, exec .pchl s = .next t ∧ t = { s with pc := s.hl, eiDelay := false } ∧ MemorySame s t) ∧
  (∀ (s : State) (adr : Word), IsF3 0b11000011 .jmp ∧
    ∃ t, exec (.jmp adr) s = .next t ∧ t = { s with pc := adr, eiDelay := false } ∧ MemorySame s t)

/-- R203 to R211: the eight conditional jumps. -/
def Obligations.ConditionalJumps : Prop :=
  ∀ (s : State) (adr : Word),
    (IsF3 0xC2 .jnz ∧ JumpsIf s (.jnz adr) (!s.flags.z) adr) ∧
    (IsF3 0xCA .jz ∧ JumpsIf s (.jz adr) s.flags.z adr) ∧
    (IsF3 0xD2 .jnc ∧ JumpsIf s (.jnc adr) (!s.flags.cy) adr) ∧
    (IsF3 0xDA .jc ∧ JumpsIf s (.jc adr) s.flags.cy adr) ∧
    (IsF3 0xE2 .jpo ∧ JumpsIf s (.jpo adr) (!s.flags.p) adr) ∧
    (IsF3 0xEA .jpe ∧ JumpsIf s (.jpe adr) s.flags.p adr) ∧
    (IsF3 0xF2 .jp ∧ JumpsIf s (.jp adr) (!s.flags.s) adr) ∧
    (IsF3 0xFA .jm ∧ JumpsIf s (.jm adr) s.flags.s adr)

/-! ## Calls and returns (spec/48_call_return.md) -/

/-- R216 CALL and R227 RST N. -/
def Obligations.CallAndRestart : Prop :=
  (∀ (s : State) (adr : Word), IsF3 0xCD .call ∧ Calls s (.call adr) (s.pc + 3) adr) ∧
  (∀ (s : State) (n : BitVec 3), IsF1 (0b11#2 ++ n ++ 0b111#3) (.rst n) ∧
    ∃ target : Word, target.toNat = 8 * n.toNat ∧ Calls s (.rst n) (s.pc + 1) target)

/-- R217 to R225: the eight conditional calls. -/
def Obligations.ConditionalCalls : Prop :=
  ∀ (s : State) (adr : Word),
    (IsF3 0xC4 .cnz ∧ CallsIf s (.cnz adr) (!s.flags.z) adr) ∧
    (IsF3 0xCC .cz ∧ CallsIf s (.cz adr) s.flags.z adr) ∧
    (IsF3 0xD4 .cnc ∧ CallsIf s (.cnc adr) (!s.flags.cy) adr) ∧
    (IsF3 0xDC .cc ∧ CallsIf s (.cc adr) s.flags.cy adr) ∧
    (IsF3 0xE4 .cpo ∧ CallsIf s (.cpo adr) (!s.flags.p) adr) ∧
    (IsF3 0xEC .cpe ∧ CallsIf s (.cpe adr) s.flags.p adr) ∧
    (IsF3 0xF4 .cp ∧ CallsIf s (.cp adr) (!s.flags.s) adr) ∧
    (IsF3 0xFC .cm ∧ CallsIf s (.cm adr) s.flags.s adr)

/-- R233 RET and R234 to R242, the eight conditional returns. -/
def Obligations.ReturnsFromSubroutines : Prop :=
  ∀ s : State,
    (IsF1 0xC9 .ret ∧ Returns s .ret) ∧
    (IsF1 0xC0 .rnz ∧ ReturnsIf s .rnz (!s.flags.z)) ∧
    (IsF1 0xC8 .rz ∧ ReturnsIf s .rz s.flags.z) ∧
    (IsF1 0xD0 .rnc ∧ ReturnsIf s .rnc (!s.flags.cy)) ∧
    (IsF1 0xD8 .rc ∧ ReturnsIf s .rc s.flags.cy) ∧
    (IsF1 0xE0 .rpo ∧ ReturnsIf s .rpo (!s.flags.p)) ∧
    (IsF1 0xE8 .rpe ∧ ReturnsIf s .rpe s.flags.p) ∧
    (IsF1 0xF0 .rp ∧ ReturnsIf s .rp (!s.flags.s)) ∧
    (IsF1 0xF8 .rm ∧ ReturnsIf s .rm s.flags.s)

/-! ## Control (spec/49_control.md) -/

/-- R245 EI, R246 DI, R247 HLT and R248 NOP. -/
def Obligations.InterruptEnableHaltAndNop : Prop :=
  ∀ s : State,
    (IsF1 0b11111011 .ei ∧ ∃ t, exec .ei s = .next t ∧
      t = { s with inte := true, eiDelay := true, pc := s.pc + 1 } ∧ MemorySame s t) ∧
    (IsF1 0b11110011 .di ∧ ∃ t, exec .di s = .next t ∧
      t = { s with inte := false, eiDelay := false, pc := s.pc + 1 } ∧ MemorySame s t) ∧
    (IsF1 0b01110110 .hlt ∧ ∃ t, exec .hlt s = .next t ∧
      t = { s with halted := true, eiDelay := false, pc := s.pc + 1 } ∧ MemorySame s t) ∧
    (IsF1 0b00000000 .nop ∧ ∃ t, exec .nop s = .next t ∧
      t = { s with eiDelay := false, pc := s.pc + 1 } ∧ MemorySame s t)

/-- RIM on the 8085: A takes the image, bit by bit, with no TRAP remembered (R250). The model's choices in
it: the field that remembers a TRAP (log 14), that the levels read are those sampled at the boundary
before the instruction (log 20), and that RIM as syntax is refused on the 8080 (log 18), whose byte 0x20
is unassigned there (R105). -/
def Obligations.ReadInterruptMasks : Prop :=
  (∀ s : State, s.platform.variant = .i8085 → s.irq.trapInte = none →
    (opcodeLength 0b00100000 = 1 ∧ ∀ b2 b3, decode .i8085 0b00100000 b2 b3 = .ok .rim) ∧
    ∃ t, exec .rim s = .next t ∧
      t = { s with regs := { s.regs with a := t.regs.a }, pc := s.pc + 1, eiDelay := false } ∧
      t.regs.a.getLsbD 7 = s.inputs.sid ∧ t.regs.a.getLsbD 6 = s.irq.i75 ∧
      t.regs.a.getLsbD 5 = s.inputs.rst65 ∧ t.regs.a.getLsbD 4 = s.inputs.rst55 ∧
      t.regs.a.getLsbD 3 = s.inte ∧ t.regs.a.getLsbD 2 = s.irq.m75 ∧
      t.regs.a.getLsbD 1 = s.irq.m65 ∧ t.regs.a.getLsbD 0 = s.irq.m55 ∧ MemorySame s t) ∧
  (∀ s : State, s.platform.variant = .i8080 → exec .rim s = .refused (.unassignedOpcode 0x20))

/-- The first RIM after a TRAP reads in bit 3 the INTE of before the TRAP, and forgets it; the other
bits are those of any RIM (R250, R281). The field that remembers it, and that the levels
read are those sampled at the boundary, are the model's choices (logs 14, 20). -/
def Obligations.TheFirstRimAfterATrap : Prop :=
  ∀ (s : State) (b : Bool), s.platform.variant = .i8085 → s.irq.trapInte = some b →
    ∃ t, exec .rim s = .next t ∧
      t = { s with regs := { s.regs with a := t.regs.a }, irq := { s.irq with trapInte := none },
                   pc := s.pc + 1, eiDelay := false } ∧
      t.regs.a.getLsbD 3 = b ∧
      t.regs.a.getLsbD 7 = s.inputs.sid ∧ t.regs.a.getLsbD 6 = s.irq.i75 ∧
      t.regs.a.getLsbD 5 = s.inputs.rst65 ∧ t.regs.a.getLsbD 4 = s.inputs.rst55 ∧
      t.regs.a.getLsbD 2 = s.irq.m75 ∧ t.regs.a.getLsbD 1 = s.irq.m65 ∧
      t.regs.a.getLsbD 0 = s.irq.m55 ∧ MemorySame s t

/-- SIM on the 8085: A[3] enables the masks, A[4] clears the latch, A[6] enables SOD (R251). That SIM as
syntax is refused on the 8080 is the model's choice (log 18); its byte 0x30 is unassigned there
(R105). -/
def Obligations.SetInterruptMasks : Prop :=
  (∀ s : State, s.platform.variant = .i8085 →
    (opcodeLength 0b00110000 = 1 ∧ ∀ b2 b3, decode .i8085 0b00110000 b2 b3 = .ok .sim) ∧
    ∃ t, exec .sim s = .next t ∧
      t = { s with
              irq :=
                { s.irq with
                  m75 := if s.regs.a.getLsbD 3 then s.regs.a.getLsbD 2 else s.irq.m75
                  m65 := if s.regs.a.getLsbD 3 then s.regs.a.getLsbD 1 else s.irq.m65
                  m55 := if s.regs.a.getLsbD 3 then s.regs.a.getLsbD 0 else s.irq.m55
                  i75 := if s.regs.a.getLsbD 4 then false else s.irq.i75
                  sod := if s.regs.a.getLsbD 6 then s.regs.a.getLsbD 7 else s.irq.sod }
              pc := s.pc + 1, eiDelay := false } ∧ MemorySame s t) ∧
  (∀ s : State, s.platform.variant = .i8080 → exec .sim s = .refused (.unassignedOpcode 0x30))
end

