-- ==== Sys2Proof/Laws/Bytes.lean ====
section
/-! SUPPORT. The two bytes of a word, taken apart and joined. -/

namespace Sys2Proof

@[simp] theorem highByte_joinBytes (hi lo : Byte) : highByte (joinBytes hi lo) = hi := by
  unfold highByte joinBytes
  apply BitVec.eq_of_getLsbD_eq; intro i h
  rw [BitVec.getLsbD_extractLsb', BitVec.getLsbD_append]; simp [h]

@[simp] theorem lowByte_joinBytes (hi lo : Byte) : lowByte (joinBytes hi lo) = lo := by
  unfold lowByte joinBytes
  apply BitVec.eq_of_getLsbD_eq; intro i h
  rw [BitVec.getLsbD_extractLsb', BitVec.getLsbD_append]; simp [h]

@[simp] theorem joinBytes_high_low (w : Word) : joinBytes (highByte w) (lowByte w) = w := by
  unfold highByte lowByte joinBytes
  apply BitVec.eq_of_getLsbD_eq; intro i h
  have h' : i < 16 := h
  rw [BitVec.getLsbD_append]
  split
  · next h8 => simp [h8]
  · next h8 =>
    rw [BitVec.getLsbD_extractLsb']
    have : 8 + (i - 8) = i := by omega
    simp [this]; omega

theorem highByte_toNat (w : Word) : (highByte w).toNat = w.toNat / 256 := by
  unfold highByte
  have := w.isLt
  simp only [BitVec.extractLsb'_toNat, Nat.shiftRight_eq_div_pow]
  omega

theorem lowByte_toNat (w : Word) : (lowByte w).toNat = w.toNat % 256 := by
  unfold lowByte
  simp [BitVec.extractLsb'_toNat]

theorem joinBytes_toNat (hi lo : Byte) : (joinBytes hi lo).toNat = hi.toNat * 256 + lo.toNat := by
  have h1 := highByte_toNat (joinBytes hi lo)
  have h2 := lowByte_toNat (joinBytes hi lo)
  simp only [highByte_joinBytes, lowByte_joinBytes] at h1 h2
  omega

end Sys2Proof
end

