-- ==== Sys2Proof/Laws/Memory.lean ====
section
/-! SUPPORT. The memory array: reading what was stored, and the canonical form, which every memory
operation keeps. -/

namespace Sys2Proof.Machine

/-- A store is read back at its address and leaves every other address as it was. -/
theorem Memory.cell_store (m : Memory) (adr x : Nat) (v : Byte) :
    (Memory.store m adr v).cell x = if x = adr then some v else Memory.cell m x := by
  induction m with
  | nil =>
    simp only [Memory.store, Memory.cell]
    by_cases h : x = adr
    · simp [h]
    · simp [h, Ne.symm h]
  | cons c rest ih =>
    obtain ⟨k, w⟩ := c
    simp only [Memory.store]
    split
    · next hk =>
      simp only [Memory.cell]
      by_cases h : x = adr
      · simp [h]
      · simp [h, Ne.symm h]
    · next hk =>
      split
      · next he =>
        subst he
        simp only [Memory.cell]
        by_cases h : x = adr
        · simp [h]
        · simp [h, Ne.symm h]
      · next he =>
        simp only [Memory.cell, ih]
        by_cases h : k = x
        · subst h; simp [Ne.symm he]
        · simp [h]

/-- A memory that rises from a bound rises from every lower one. -/
theorem Memory.risesFrom_of_le {m : Memory} {low low' : Nat} (h : low' ≤ low)
    (hm : Memory.risesFrom low m = true) : Memory.risesFrom low' m = true := by
  cases m with
  | nil => rfl
  | cons c rest =>
    obtain ⟨k, w⟩ := c
    simp only [Memory.risesFrom, Bool.and_eq_true, decide_eq_true_eq] at hm ⊢
    exact ⟨⟨by omega, hm.1.2⟩, hm.2⟩

/-- A store at or above the bound keeps the rise. -/
theorem Memory.risesFrom_store {m : Memory} {low adr : Nat} (v : Byte) (hl : low ≤ adr)
    (ha : adr < 65536) (hm : Memory.risesFrom low m = true) :
    Memory.risesFrom low (Memory.store m adr v) = true := by
  induction m generalizing low with
  | nil => simp [Memory.store, Memory.risesFrom, hl, ha]
  | cons c rest ih =>
    obtain ⟨k, w⟩ := c
    simp only [Memory.risesFrom, Bool.and_eq_true, decide_eq_true_eq] at hm
    simp only [Memory.store]
    split
    · next hk =>
      simp only [Memory.risesFrom, Bool.and_eq_true, decide_eq_true_eq]
      exact ⟨⟨hl, ha⟩, ⟨by omega, hm.1.2⟩, hm.2⟩
    · next hk =>
      split
      · next he =>
        simp only [Memory.risesFrom, Bool.and_eq_true, decide_eq_true_eq]
        exact ⟨⟨hl, ha⟩, by subst he; exact hm.2⟩
      · next he =>
        simp only [Memory.risesFrom, Bool.and_eq_true, decide_eq_true_eq]
        exact ⟨hm.1, ih (by omega) hm.2⟩

/-- A store into the address space keeps the canonical form. -/
theorem Memory.wf_store {m : Memory} (adr : Word) (v : Byte) (hm : m.wf = true) :
    (Memory.store m adr.toNat v).wf = true :=
  Memory.risesFrom_store v (Nat.zero_le _) adr.isLt hm

/-- Leaving cells out keeps the canonical form. -/
theorem Memory.risesFrom_filter {m : Memory} {low : Nat} (f : Host.Cell → Bool)
    (hm : Memory.risesFrom low m = true) : Memory.risesFrom low (List.filter f m) = true := by
  induction m generalizing low with
  | nil => rfl
  | cons c rest ih =>
    obtain ⟨k, w⟩ := c
    simp only [Memory.risesFrom, Bool.and_eq_true, decide_eq_true_eq] at hm
    simp only [List.filter_cons]
    split
    · simp only [Memory.risesFrom, Bool.and_eq_true, decide_eq_true_eq]
      exact ⟨hm.1, ih hm.2⟩
    · exact Memory.risesFrom_of_le (by omega) (ih hm.2)

theorem Memory.wf_filter {m : Memory} (f : Host.Cell → Bool) (hm : m.wf = true) :
    Memory.wf (List.filter f m) = true := Memory.risesFrom_filter f hm

/-- What is listed at an address after cells are left out by their address. -/
theorem Memory.cell_filter (m : Memory) (keep : Nat → Bool) (x : Nat) :
    Memory.cell (List.filter (fun c => keep c.1) m) x = if keep x then Memory.cell m x else none := by
  induction m with
  | nil => simp [Memory.cell]
  | cons c rest ih =>
    obtain ⟨k, w⟩ := c
    simp only [List.filter_cons]
    by_cases hk : keep k
    · simp only [hk, if_true, Memory.cell, ih]
      by_cases h : k = x
      · subst h; simp [hk]
      · simp [h]
    · simp only [hk, Bool.false_eq_true, if_false, Memory.cell, ih]
      by_cases h : k = x
      · subst h; simp [hk]
      · simp [h]

/-- A memory that rises from a bound lists nothing below it. -/
theorem Memory.cell_none_of_lt {m : Memory} {low x : Nat} (hm : Memory.risesFrom low m = true)
    (h : x < low) : Memory.cell m x = none := by
  induction m generalizing low with
  | nil => rfl
  | cons c rest ih =>
    obtain ⟨k, w⟩ := c
    simp only [Memory.risesFrom, Bool.and_eq_true, decide_eq_true_eq] at hm
    simp only [Memory.cell]
    rw [if_neg (by omega)]
    exact ih hm.2 (by omega)

end Sys2Proof.Machine
end

