-- ==== Sys2Proof/Laws/State.lean ====
section
/-! SUPPORT. One lemma for each field under each update of the state: what the update writes, and that
it leaves every other field as it was. With these no proof unfolds a record update. -/

namespace Sys2Proof.Machine

variable (s : State)

/-- Two states are equal when every field is. -/
theorem State.eq_of_fields {s t : State} (h_regs : s.regs = t.regs)
    (h_flags : s.flags = t.flags)
    (h_sp : s.sp = t.sp)
    (h_pc : s.pc = t.pc)
    (h_inte : s.inte = t.inte)
    (h_halted : s.halted = t.halted)
    (h_eiDelay : s.eiDelay = t.eiDelay)
    (h_irq : s.irq = t.irq)
    (h_mem : s.mem = t.mem)
    (h_io : s.io = t.io)
    (h_platform : s.platform = t.platform)
    (h_inputs : s.inputs = t.inputs)
    (h_script : s.script = t.script)
    (h_draws : s.draws = t.draws)
    (h_resets : s.resets = t.resets) : s = t := by
  cases s
  cases t
  simp_all

/-! ### setReg -/

@[simp] theorem State.setReg_flags (r : Reg) (v : Byte) : (s.setReg r v).flags = s.flags := by cases r <;> rfl
@[simp] theorem State.setReg_sp (r : Reg) (v : Byte) : (s.setReg r v).sp = s.sp := by cases r <;> rfl
@[simp] theorem State.setReg_pc (r : Reg) (v : Byte) : (s.setReg r v).pc = s.pc := by cases r <;> rfl
@[simp] theorem State.setReg_inte (r : Reg) (v : Byte) : (s.setReg r v).inte = s.inte := by cases r <;> rfl
@[simp] theorem State.setReg_halted (r : Reg) (v : Byte) : (s.setReg r v).halted = s.halted := by cases r <;> rfl
@[simp] theorem State.setReg_eiDelay (r : Reg) (v : Byte) : (s.setReg r v).eiDelay = s.eiDelay := by cases r <;> rfl
@[simp] theorem State.setReg_irq (r : Reg) (v : Byte) : (s.setReg r v).irq = s.irq := by cases r <;> rfl
@[simp] theorem State.setReg_mem (r : Reg) (v : Byte) : (s.setReg r v).mem = s.mem := by cases r <;> rfl
@[simp] theorem State.setReg_io (r : Reg) (v : Byte) : (s.setReg r v).io = s.io := by cases r <;> rfl
@[simp] theorem State.setReg_platform (r : Reg) (v : Byte) : (s.setReg r v).platform = s.platform := by cases r <;> rfl
@[simp] theorem State.setReg_inputs (r : Reg) (v : Byte) : (s.setReg r v).inputs = s.inputs := by cases r <;> rfl
@[simp] theorem State.setReg_script (r : Reg) (v : Byte) : (s.setReg r v).script = s.script := by cases r <;> rfl
@[simp] theorem State.setReg_draws (r : Reg) (v : Byte) : (s.setReg r v).draws = s.draws := by cases r <;> rfl
@[simp] theorem State.setReg_resets (r : Reg) (v : Byte) : (s.setReg r v).resets = s.resets := by cases r <;> rfl
@[simp] theorem State.setReg_kindAt (r : Reg) (v : Byte) (x : Word) : (s.setReg r v).kindAt x = s.kindAt x := by cases r <;> rfl
@[simp] theorem State.setReg_content (r : Reg) (v : Byte) (x : Word) : (s.setReg r v).content x = s.content x := by cases r <;> rfl

/-! ### setBC -/

@[simp] theorem State.setBC_regs (v : Word) : (s.setBC v).regs = { s.regs with b := highByte v, c := lowByte v } := rfl
@[simp] theorem State.setBC_flags (v : Word) : (s.setBC v).flags = s.flags := rfl
@[simp] theorem State.setBC_sp (v : Word) : (s.setBC v).sp = s.sp := rfl
@[simp] theorem State.setBC_pc (v : Word) : (s.setBC v).pc = s.pc := rfl
@[simp] theorem State.setBC_inte (v : Word) : (s.setBC v).inte = s.inte := rfl
@[simp] theorem State.setBC_halted (v : Word) : (s.setBC v).halted = s.halted := rfl
@[simp] theorem State.setBC_eiDelay (v : Word) : (s.setBC v).eiDelay = s.eiDelay := rfl
@[simp] theorem State.setBC_irq (v : Word) : (s.setBC v).irq = s.irq := rfl
@[simp] theorem State.setBC_mem (v : Word) : (s.setBC v).mem = s.mem := rfl
@[simp] theorem State.setBC_io (v : Word) : (s.setBC v).io = s.io := rfl
@[simp] theorem State.setBC_platform (v : Word) : (s.setBC v).platform = s.platform := rfl
@[simp] theorem State.setBC_inputs (v : Word) : (s.setBC v).inputs = s.inputs := rfl
@[simp] theorem State.setBC_script (v : Word) : (s.setBC v).script = s.script := rfl
@[simp] theorem State.setBC_draws (v : Word) : (s.setBC v).draws = s.draws := rfl
@[simp] theorem State.setBC_resets (v : Word) : (s.setBC v).resets = s.resets := rfl
@[simp] theorem State.setBC_kindAt (v : Word) (x : Word) : (s.setBC v).kindAt x = s.kindAt x := rfl
@[simp] theorem State.setBC_content (v : Word) (x : Word) : (s.setBC v).content x = s.content x := rfl

/-! ### setDE -/

@[simp] theorem State.setDE_regs (v : Word) : (s.setDE v).regs = { s.regs with d := highByte v, e := lowByte v } := rfl
@[simp] theorem State.setDE_flags (v : Word) : (s.setDE v).flags = s.flags := rfl
@[simp] theorem State.setDE_sp (v : Word) : (s.setDE v).sp = s.sp := rfl
@[simp] theorem State.setDE_pc (v : Word) : (s.setDE v).pc = s.pc := rfl
@[simp] theorem State.setDE_inte (v : Word) : (s.setDE v).inte = s.inte := rfl
@[simp] theorem State.setDE_halted (v : Word) : (s.setDE v).halted = s.halted := rfl
@[simp] theorem State.setDE_eiDelay (v : Word) : (s.setDE v).eiDelay = s.eiDelay := rfl
@[simp] theorem State.setDE_irq (v : Word) : (s.setDE v).irq = s.irq := rfl
@[simp] theorem State.setDE_mem (v : Word) : (s.setDE v).mem = s.mem := rfl
@[simp] theorem State.setDE_io (v : Word) : (s.setDE v).io = s.io := rfl
@[simp] theorem State.setDE_platform (v : Word) : (s.setDE v).platform = s.platform := rfl
@[simp] theorem State.setDE_inputs (v : Word) : (s.setDE v).inputs = s.inputs := rfl
@[simp] theorem State.setDE_script (v : Word) : (s.setDE v).script = s.script := rfl
@[simp] theorem State.setDE_draws (v : Word) : (s.setDE v).draws = s.draws := rfl
@[simp] theorem State.setDE_resets (v : Word) : (s.setDE v).resets = s.resets := rfl
@[simp] theorem State.setDE_kindAt (v : Word) (x : Word) : (s.setDE v).kindAt x = s.kindAt x := rfl
@[simp] theorem State.setDE_content (v : Word) (x : Word) : (s.setDE v).content x = s.content x := rfl

/-! ### setHL -/

@[simp] theorem State.setHL_regs (v : Word) : (s.setHL v).regs = { s.regs with h := highByte v, l := lowByte v } := rfl
@[simp] theorem State.setHL_flags (v : Word) : (s.setHL v).flags = s.flags := rfl
@[simp] theorem State.setHL_sp (v : Word) : (s.setHL v).sp = s.sp := rfl
@[simp] theorem State.setHL_pc (v : Word) : (s.setHL v).pc = s.pc := rfl
@[simp] theorem State.setHL_inte (v : Word) : (s.setHL v).inte = s.inte := rfl
@[simp] theorem State.setHL_halted (v : Word) : (s.setHL v).halted = s.halted := rfl
@[simp] theorem State.setHL_eiDelay (v : Word) : (s.setHL v).eiDelay = s.eiDelay := rfl
@[simp] theorem State.setHL_irq (v : Word) : (s.setHL v).irq = s.irq := rfl
@[simp] theorem State.setHL_mem (v : Word) : (s.setHL v).mem = s.mem := rfl
@[simp] theorem State.setHL_io (v : Word) : (s.setHL v).io = s.io := rfl
@[simp] theorem State.setHL_platform (v : Word) : (s.setHL v).platform = s.platform := rfl
@[simp] theorem State.setHL_inputs (v : Word) : (s.setHL v).inputs = s.inputs := rfl
@[simp] theorem State.setHL_script (v : Word) : (s.setHL v).script = s.script := rfl
@[simp] theorem State.setHL_draws (v : Word) : (s.setHL v).draws = s.draws := rfl
@[simp] theorem State.setHL_resets (v : Word) : (s.setHL v).resets = s.resets := rfl
@[simp] theorem State.setHL_kindAt (v : Word) (x : Word) : (s.setHL v).kindAt x = s.kindAt x := rfl
@[simp] theorem State.setHL_content (v : Word) (x : Word) : (s.setHL v).content x = s.content x := rfl

/-! ### setSP -/

@[simp] theorem State.setSP_regs (v : Word) : (s.setSP v).regs = s.regs := rfl
@[simp] theorem State.setSP_flags (v : Word) : (s.setSP v).flags = s.flags := rfl
@[simp] theorem State.setSP_sp (v : Word) : (s.setSP v).sp = v := rfl
@[simp] theorem State.setSP_pc (v : Word) : (s.setSP v).pc = s.pc := rfl
@[simp] theorem State.setSP_inte (v : Word) : (s.setSP v).inte = s.inte := rfl
@[simp] theorem State.setSP_halted (v : Word) : (s.setSP v).halted = s.halted := rfl
@[simp] theorem State.setSP_eiDelay (v : Word) : (s.setSP v).eiDelay = s.eiDelay := rfl
@[simp] theorem State.setSP_irq (v : Word) : (s.setSP v).irq = s.irq := rfl
@[simp] theorem State.setSP_mem (v : Word) : (s.setSP v).mem = s.mem := rfl
@[simp] theorem State.setSP_io (v : Word) : (s.setSP v).io = s.io := rfl
@[simp] theorem State.setSP_platform (v : Word) : (s.setSP v).platform = s.platform := rfl
@[simp] theorem State.setSP_inputs (v : Word) : (s.setSP v).inputs = s.inputs := rfl
@[simp] theorem State.setSP_script (v : Word) : (s.setSP v).script = s.script := rfl
@[simp] theorem State.setSP_draws (v : Word) : (s.setSP v).draws = s.draws := rfl
@[simp] theorem State.setSP_resets (v : Word) : (s.setSP v).resets = s.resets := rfl
@[simp] theorem State.setSP_reg (v : Word) (r : Reg) : (s.setSP v).reg r = s.reg r := by cases r <;> rfl
@[simp] theorem State.setSP_bc (v : Word) : (s.setSP v).bc = s.bc := rfl
@[simp] theorem State.setSP_de (v : Word) : (s.setSP v).de = s.de := rfl
@[simp] theorem State.setSP_hl (v : Word) : (s.setSP v).hl = s.hl := rfl
@[simp] theorem State.setSP_kindAt (v : Word) (x : Word) : (s.setSP v).kindAt x = s.kindAt x := rfl
@[simp] theorem State.setSP_content (v : Word) (x : Word) : (s.setSP v).content x = s.content x := rfl

/-! ### setFlags -/

@[simp] theorem State.setFlags_regs (f : Flags) : (s.setFlags f).regs = s.regs := rfl
@[simp] theorem State.setFlags_flags (f : Flags) : (s.setFlags f).flags = f := rfl
@[simp] theorem State.setFlags_sp (f : Flags) : (s.setFlags f).sp = s.sp := rfl
@[simp] theorem State.setFlags_pc (f : Flags) : (s.setFlags f).pc = s.pc := rfl
@[simp] theorem State.setFlags_inte (f : Flags) : (s.setFlags f).inte = s.inte := rfl
@[simp] theorem State.setFlags_halted (f : Flags) : (s.setFlags f).halted = s.halted := rfl
@[simp] theorem State.setFlags_eiDelay (f : Flags) : (s.setFlags f).eiDelay = s.eiDelay := rfl
@[simp] theorem State.setFlags_irq (f : Flags) : (s.setFlags f).irq = s.irq := rfl
@[simp] theorem State.setFlags_mem (f : Flags) : (s.setFlags f).mem = s.mem := rfl
@[simp] theorem State.setFlags_io (f : Flags) : (s.setFlags f).io = s.io := rfl
@[simp] theorem State.setFlags_platform (f : Flags) : (s.setFlags f).platform = s.platform := rfl
@[simp] theorem State.setFlags_inputs (f : Flags) : (s.setFlags f).inputs = s.inputs := rfl
@[simp] theorem State.setFlags_script (f : Flags) : (s.setFlags f).script = s.script := rfl
@[simp] theorem State.setFlags_draws (f : Flags) : (s.setFlags f).draws = s.draws := rfl
@[simp] theorem State.setFlags_resets (f : Flags) : (s.setFlags f).resets = s.resets := rfl
@[simp] theorem State.setFlags_reg (f : Flags) (r : Reg) : (s.setFlags f).reg r = s.reg r := by cases r <;> rfl
@[simp] theorem State.setFlags_bc (f : Flags) : (s.setFlags f).bc = s.bc := rfl
@[simp] theorem State.setFlags_de (f : Flags) : (s.setFlags f).de = s.de := rfl
@[simp] theorem State.setFlags_hl (f : Flags) : (s.setFlags f).hl = s.hl := rfl
@[simp] theorem State.setFlags_kindAt (f : Flags) (x : Word) : (s.setFlags f).kindAt x = s.kindAt x := rfl
@[simp] theorem State.setFlags_content (f : Flags) (x : Word) : (s.setFlags f).content x = s.content x := rfl

/-! ### setCarry -/

@[simp] theorem State.setCarry_regs (c : Bool) : (s.setCarry c).regs = s.regs := rfl
@[simp] theorem State.setCarry_flags (c : Bool) : (s.setCarry c).flags = { s.flags with cy := c } := rfl
@[simp] theorem State.setCarry_sp (c : Bool) : (s.setCarry c).sp = s.sp := rfl
@[simp] theorem State.setCarry_pc (c : Bool) : (s.setCarry c).pc = s.pc := rfl
@[simp] theorem State.setCarry_inte (c : Bool) : (s.setCarry c).inte = s.inte := rfl
@[simp] theorem State.setCarry_halted (c : Bool) : (s.setCarry c).halted = s.halted := rfl
@[simp] theorem State.setCarry_eiDelay (c : Bool) : (s.setCarry c).eiDelay = s.eiDelay := rfl
@[simp] theorem State.setCarry_irq (c : Bool) : (s.setCarry c).irq = s.irq := rfl
@[simp] theorem State.setCarry_mem (c : Bool) : (s.setCarry c).mem = s.mem := rfl
@[simp] theorem State.setCarry_io (c : Bool) : (s.setCarry c).io = s.io := rfl
@[simp] theorem State.setCarry_platform (c : Bool) : (s.setCarry c).platform = s.platform := rfl
@[simp] theorem State.setCarry_inputs (c : Bool) : (s.setCarry c).inputs = s.inputs := rfl
@[simp] theorem State.setCarry_script (c : Bool) : (s.setCarry c).script = s.script := rfl
@[simp] theorem State.setCarry_draws (c : Bool) : (s.setCarry c).draws = s.draws := rfl
@[simp] theorem State.setCarry_resets (c : Bool) : (s.setCarry c).resets = s.resets := rfl
@[simp] theorem State.setCarry_reg (c : Bool) (r : Reg) : (s.setCarry c).reg r = s.reg r := by cases r <;> rfl
@[simp] theorem State.setCarry_bc (c : Bool) : (s.setCarry c).bc = s.bc := rfl
@[simp] theorem State.setCarry_de (c : Bool) : (s.setCarry c).de = s.de := rfl
@[simp] theorem State.setCarry_hl (c : Bool) : (s.setCarry c).hl = s.hl := rfl
@[simp] theorem State.setCarry_kindAt (c : Bool) (x : Word) : (s.setCarry c).kindAt x = s.kindAt x := rfl
@[simp] theorem State.setCarry_content (c : Bool) (x : Word) : (s.setCarry c).content x = s.content x := rfl

/-! ### jumpTo -/

@[simp] theorem State.jumpTo_regs (w : Word) : (s.jumpTo w).regs = s.regs := rfl
@[simp] theorem State.jumpTo_flags (w : Word) : (s.jumpTo w).flags = s.flags := rfl
@[simp] theorem State.jumpTo_sp (w : Word) : (s.jumpTo w).sp = s.sp := rfl
@[simp] theorem State.jumpTo_pc (w : Word) : (s.jumpTo w).pc = w := rfl
@[simp] theorem State.jumpTo_inte (w : Word) : (s.jumpTo w).inte = s.inte := rfl
@[simp] theorem State.jumpTo_halted (w : Word) : (s.jumpTo w).halted = s.halted := rfl
@[simp] theorem State.jumpTo_eiDelay (w : Word) : (s.jumpTo w).eiDelay = false := rfl
@[simp] theorem State.jumpTo_irq (w : Word) : (s.jumpTo w).irq = s.irq := rfl
@[simp] theorem State.jumpTo_mem (w : Word) : (s.jumpTo w).mem = s.mem := rfl
@[simp] theorem State.jumpTo_io (w : Word) : (s.jumpTo w).io = s.io := rfl
@[simp] theorem State.jumpTo_platform (w : Word) : (s.jumpTo w).platform = s.platform := rfl
@[simp] theorem State.jumpTo_inputs (w : Word) : (s.jumpTo w).inputs = s.inputs := rfl
@[simp] theorem State.jumpTo_script (w : Word) : (s.jumpTo w).script = s.script := rfl
@[simp] theorem State.jumpTo_draws (w : Word) : (s.jumpTo w).draws = s.draws := rfl
@[simp] theorem State.jumpTo_resets (w : Word) : (s.jumpTo w).resets = s.resets := rfl
@[simp] theorem State.jumpTo_reg (w : Word) (r : Reg) : (s.jumpTo w).reg r = s.reg r := by cases r <;> rfl
@[simp] theorem State.jumpTo_bc (w : Word) : (s.jumpTo w).bc = s.bc := rfl
@[simp] theorem State.jumpTo_de (w : Word) : (s.jumpTo w).de = s.de := rfl
@[simp] theorem State.jumpTo_hl (w : Word) : (s.jumpTo w).hl = s.hl := rfl
@[simp] theorem State.jumpTo_kindAt (w : Word) (x : Word) : (s.jumpTo w).kindAt x = s.kindAt x := rfl
@[simp] theorem State.jumpTo_content (w : Word) (x : Word) : (s.jumpTo w).content x = s.content x := rfl

/-! ### advance -/

@[simp] theorem State.advance_regs (w : Word) : (s.advance w).regs = s.regs := rfl
@[simp] theorem State.advance_flags (w : Word) : (s.advance w).flags = s.flags := rfl
@[simp] theorem State.advance_sp (w : Word) : (s.advance w).sp = s.sp := rfl
@[simp] theorem State.advance_pc (w : Word) : (s.advance w).pc = s.pc + w := rfl
@[simp] theorem State.advance_inte (w : Word) : (s.advance w).inte = s.inte := rfl
@[simp] theorem State.advance_halted (w : Word) : (s.advance w).halted = s.halted := rfl
@[simp] theorem State.advance_eiDelay (w : Word) : (s.advance w).eiDelay = false := rfl
@[simp] theorem State.advance_irq (w : Word) : (s.advance w).irq = s.irq := rfl
@[simp] theorem State.advance_mem (w : Word) : (s.advance w).mem = s.mem := rfl
@[simp] theorem State.advance_io (w : Word) : (s.advance w).io = s.io := rfl
@[simp] theorem State.advance_platform (w : Word) : (s.advance w).platform = s.platform := rfl
@[simp] theorem State.advance_inputs (w : Word) : (s.advance w).inputs = s.inputs := rfl
@[simp] theorem State.advance_script (w : Word) : (s.advance w).script = s.script := rfl
@[simp] theorem State.advance_draws (w : Word) : (s.advance w).draws = s.draws := rfl
@[simp] theorem State.advance_resets (w : Word) : (s.advance w).resets = s.resets := rfl
@[simp] theorem State.advance_reg (w : Word) (r : Reg) : (s.advance w).reg r = s.reg r := by cases r <;> rfl
@[simp] theorem State.advance_bc (w : Word) : (s.advance w).bc = s.bc := rfl
@[simp] theorem State.advance_de (w : Word) : (s.advance w).de = s.de := rfl
@[simp] theorem State.advance_hl (w : Word) : (s.advance w).hl = s.hl := rfl
@[simp] theorem State.advance_kindAt (w : Word) (x : Word) : (s.advance w).kindAt x = s.kindAt x := rfl
@[simp] theorem State.advance_content (w : Word) (x : Word) : (s.advance w).content x = s.content x := rfl

/-! ### ioWrite -/

@[simp] theorem State.ioWrite_regs (port v : Byte) : (s.ioWrite port v).regs = s.regs := rfl
@[simp] theorem State.ioWrite_flags (port v : Byte) : (s.ioWrite port v).flags = s.flags := rfl
@[simp] theorem State.ioWrite_sp (port v : Byte) : (s.ioWrite port v).sp = s.sp := rfl
@[simp] theorem State.ioWrite_pc (port v : Byte) : (s.ioWrite port v).pc = s.pc := rfl
@[simp] theorem State.ioWrite_inte (port v : Byte) : (s.ioWrite port v).inte = s.inte := rfl
@[simp] theorem State.ioWrite_halted (port v : Byte) : (s.ioWrite port v).halted = s.halted := rfl
@[simp] theorem State.ioWrite_eiDelay (port v : Byte) : (s.ioWrite port v).eiDelay = s.eiDelay := rfl
@[simp] theorem State.ioWrite_irq (port v : Byte) : (s.ioWrite port v).irq = s.irq := rfl
@[simp] theorem State.ioWrite_mem (port v : Byte) : (s.ioWrite port v).mem = s.mem := rfl
@[simp] theorem State.ioWrite_io (port v : Byte) : (s.ioWrite port v).io = s.io ++ [.write port v] := rfl
@[simp] theorem State.ioWrite_platform (port v : Byte) : (s.ioWrite port v).platform = s.platform := rfl
@[simp] theorem State.ioWrite_inputs (port v : Byte) : (s.ioWrite port v).inputs = s.inputs := rfl
@[simp] theorem State.ioWrite_script (port v : Byte) : (s.ioWrite port v).script = s.script := rfl
@[simp] theorem State.ioWrite_draws (port v : Byte) : (s.ioWrite port v).draws = s.draws := rfl
@[simp] theorem State.ioWrite_resets (port v : Byte) : (s.ioWrite port v).resets = s.resets := rfl
@[simp] theorem State.ioWrite_reg (port v : Byte) (r : Reg) : (s.ioWrite port v).reg r = s.reg r := by cases r <;> rfl
@[simp] theorem State.ioWrite_bc (port v : Byte) : (s.ioWrite port v).bc = s.bc := rfl
@[simp] theorem State.ioWrite_de (port v : Byte) : (s.ioWrite port v).de = s.de := rfl
@[simp] theorem State.ioWrite_hl (port v : Byte) : (s.ioWrite port v).hl = s.hl := rfl
@[simp] theorem State.ioWrite_kindAt (port v : Byte) (x : Word) : (s.ioWrite port v).kindAt x = s.kindAt x := rfl
@[simp] theorem State.ioWrite_content (port v : Byte) (x : Word) : (s.ioWrite port v).content x = s.content x := rfl

/-! ### load -/

@[simp] theorem State.load_regs (adr : Word) (v : Byte) : (s.load adr v).regs = s.regs := rfl
@[simp] theorem State.load_flags (adr : Word) (v : Byte) : (s.load adr v).flags = s.flags := rfl
@[simp] theorem State.load_sp (adr : Word) (v : Byte) : (s.load adr v).sp = s.sp := rfl
@[simp] theorem State.load_pc (adr : Word) (v : Byte) : (s.load adr v).pc = s.pc := rfl
@[simp] theorem State.load_inte (adr : Word) (v : Byte) : (s.load adr v).inte = s.inte := rfl
@[simp] theorem State.load_halted (adr : Word) (v : Byte) : (s.load adr v).halted = s.halted := rfl
@[simp] theorem State.load_eiDelay (adr : Word) (v : Byte) : (s.load adr v).eiDelay = s.eiDelay := rfl
@[simp] theorem State.load_irq (adr : Word) (v : Byte) : (s.load adr v).irq = s.irq := rfl
@[simp] theorem State.load_mem (adr : Word) (v : Byte) : (s.load adr v).mem = s.mem.store adr.toNat v := rfl
@[simp] theorem State.load_io (adr : Word) (v : Byte) : (s.load adr v).io = s.io := rfl
@[simp] theorem State.load_platform (adr : Word) (v : Byte) : (s.load adr v).platform = s.platform := rfl
@[simp] theorem State.load_inputs (adr : Word) (v : Byte) : (s.load adr v).inputs = s.inputs := rfl
@[simp] theorem State.load_script (adr : Word) (v : Byte) : (s.load adr v).script = s.script := rfl
@[simp] theorem State.load_draws (adr : Word) (v : Byte) : (s.load adr v).draws = s.draws := rfl
@[simp] theorem State.load_resets (adr : Word) (v : Byte) : (s.load adr v).resets = s.resets := rfl
@[simp] theorem State.load_reg (adr : Word) (v : Byte) (r : Reg) : (s.load adr v).reg r = s.reg r := by cases r <;> rfl
@[simp] theorem State.load_bc (adr : Word) (v : Byte) : (s.load adr v).bc = s.bc := rfl
@[simp] theorem State.load_de (adr : Word) (v : Byte) : (s.load adr v).de = s.de := rfl
@[simp] theorem State.load_hl (adr : Word) (v : Byte) : (s.load adr v).hl = s.hl := rfl
@[simp] theorem State.load_kindAt (adr : Word) (v : Byte) (x : Word) : (s.load adr v).kindAt x = s.kindAt x := rfl

/-! ### latchRst75 -/

@[simp] theorem State.latchRst75_regs : s.latchRst75.regs = s.regs := by unfold State.latchRst75; split <;> rfl
@[simp] theorem State.latchRst75_flags : s.latchRst75.flags = s.flags := by unfold State.latchRst75; split <;> rfl
@[simp] theorem State.latchRst75_sp : s.latchRst75.sp = s.sp := by unfold State.latchRst75; split <;> rfl
@[simp] theorem State.latchRst75_pc : s.latchRst75.pc = s.pc := by unfold State.latchRst75; split <;> rfl
@[simp] theorem State.latchRst75_inte : s.latchRst75.inte = s.inte := by unfold State.latchRst75; split <;> rfl
@[simp] theorem State.latchRst75_halted : s.latchRst75.halted = s.halted := by unfold State.latchRst75; split <;> rfl
@[simp] theorem State.latchRst75_eiDelay : s.latchRst75.eiDelay = s.eiDelay := by unfold State.latchRst75; split <;> rfl
@[simp] theorem State.latchRst75_mem : s.latchRst75.mem = s.mem := by unfold State.latchRst75; split <;> rfl
@[simp] theorem State.latchRst75_io : s.latchRst75.io = s.io := by unfold State.latchRst75; split <;> rfl
@[simp] theorem State.latchRst75_platform : s.latchRst75.platform = s.platform := by unfold State.latchRst75; split <;> rfl
@[simp] theorem State.latchRst75_inputs : s.latchRst75.inputs = s.inputs := by unfold State.latchRst75; split <;> rfl
@[simp] theorem State.latchRst75_script : s.latchRst75.script = s.script := by unfold State.latchRst75; split <;> rfl
@[simp] theorem State.latchRst75_draws : s.latchRst75.draws = s.draws := by unfold State.latchRst75; split <;> rfl
@[simp] theorem State.latchRst75_resets : s.latchRst75.resets = s.resets := by unfold State.latchRst75; split <;> rfl
@[simp] theorem State.latchRst75_reg (r : Reg) : s.latchRst75.reg r = s.reg r := by unfold State.latchRst75; split <;> rfl
@[simp] theorem State.latchRst75_bc : s.latchRst75.bc = s.bc := by unfold State.latchRst75; split <;> rfl
@[simp] theorem State.latchRst75_de : s.latchRst75.de = s.de := by unfold State.latchRst75; split <;> rfl
@[simp] theorem State.latchRst75_hl : s.latchRst75.hl = s.hl := by unfold State.latchRst75; split <;> rfl
@[simp] theorem State.latchRst75_kindAt (x : Word) : s.latchRst75.kindAt x = s.kindAt x := by unfold State.latchRst75; split <;> rfl
@[simp] theorem State.latchRst75_content (x : Word) : s.latchRst75.content x = s.content x := by unfold State.latchRst75; split <;> rfl

/-! ### nextInputs -/

@[simp] theorem State.nextInputs_regs : s.nextInputs.regs = s.regs := by unfold State.nextInputs; split <;> rfl
@[simp] theorem State.nextInputs_flags : s.nextInputs.flags = s.flags := by unfold State.nextInputs; split <;> rfl
@[simp] theorem State.nextInputs_sp : s.nextInputs.sp = s.sp := by unfold State.nextInputs; split <;> rfl
@[simp] theorem State.nextInputs_pc : s.nextInputs.pc = s.pc := by unfold State.nextInputs; split <;> rfl
@[simp] theorem State.nextInputs_inte : s.nextInputs.inte = s.inte := by unfold State.nextInputs; split <;> rfl
@[simp] theorem State.nextInputs_halted : s.nextInputs.halted = s.halted := by unfold State.nextInputs; split <;> rfl
@[simp] theorem State.nextInputs_eiDelay : s.nextInputs.eiDelay = s.eiDelay := by unfold State.nextInputs; split <;> rfl
@[simp] theorem State.nextInputs_irq : s.nextInputs.irq = s.irq := by unfold State.nextInputs; split <;> rfl
@[simp] theorem State.nextInputs_mem : s.nextInputs.mem = s.mem := by unfold State.nextInputs; split <;> rfl
@[simp] theorem State.nextInputs_io : s.nextInputs.io = s.io := by unfold State.nextInputs; split <;> rfl
@[simp] theorem State.nextInputs_platform : s.nextInputs.platform = s.platform := by unfold State.nextInputs; split <;> rfl
@[simp] theorem State.nextInputs_draws : s.nextInputs.draws = s.draws := by unfold State.nextInputs; split <;> rfl
@[simp] theorem State.nextInputs_resets : s.nextInputs.resets = s.resets := by unfold State.nextInputs; split <;> rfl
@[simp] theorem State.nextInputs_reg (r : Reg) : s.nextInputs.reg r = s.reg r := by unfold State.nextInputs; split <;> rfl
@[simp] theorem State.nextInputs_bc : s.nextInputs.bc = s.bc := by unfold State.nextInputs; split <;> rfl
@[simp] theorem State.nextInputs_de : s.nextInputs.de = s.de := by unfold State.nextInputs; split <;> rfl
@[simp] theorem State.nextInputs_hl : s.nextInputs.hl = s.hl := by unfold State.nextInputs; split <;> rfl
@[simp] theorem State.nextInputs_kindAt (x : Word) : s.nextInputs.kindAt x = s.kindAt x := by unfold State.nextInputs; split <;> rfl
@[simp] theorem State.nextInputs_content (x : Word) : s.nextInputs.content x = s.content x := by unfold State.nextInputs; split <;> rfl

/-! ### memWrite -/

@[simp] theorem State.memWrite_regs (adr : Word) (v : Byte) : (s.memWrite adr v).regs = s.regs := by unfold State.memWrite; split <;> rfl
@[simp] theorem State.memWrite_flags (adr : Word) (v : Byte) : (s.memWrite adr v).flags = s.flags := by unfold State.memWrite; split <;> rfl
@[simp] theorem State.memWrite_sp (adr : Word) (v : Byte) : (s.memWrite adr v).sp = s.sp := by unfold State.memWrite; split <;> rfl
@[simp] theorem State.memWrite_pc (adr : Word) (v : Byte) : (s.memWrite adr v).pc = s.pc := by unfold State.memWrite; split <;> rfl
@[simp] theorem State.memWrite_inte (adr : Word) (v : Byte) : (s.memWrite adr v).inte = s.inte := by unfold State.memWrite; split <;> rfl
@[simp] theorem State.memWrite_halted (adr : Word) (v : Byte) : (s.memWrite adr v).halted = s.halted := by unfold State.memWrite; split <;> rfl
@[simp] theorem State.memWrite_eiDelay (adr : Word) (v : Byte) : (s.memWrite adr v).eiDelay = s.eiDelay := by unfold State.memWrite; split <;> rfl
@[simp] theorem State.memWrite_irq (adr : Word) (v : Byte) : (s.memWrite adr v).irq = s.irq := by unfold State.memWrite; split <;> rfl
@[simp] theorem State.memWrite_io (adr : Word) (v : Byte) : (s.memWrite adr v).io = s.io := by unfold State.memWrite; split <;> rfl
@[simp] theorem State.memWrite_platform (adr : Word) (v : Byte) : (s.memWrite adr v).platform = s.platform := by unfold State.memWrite; split <;> rfl
@[simp] theorem State.memWrite_inputs (adr : Word) (v : Byte) : (s.memWrite adr v).inputs = s.inputs := by unfold State.memWrite; split <;> rfl
@[simp] theorem State.memWrite_script (adr : Word) (v : Byte) : (s.memWrite adr v).script = s.script := by unfold State.memWrite; split <;> rfl
@[simp] theorem State.memWrite_draws (adr : Word) (v : Byte) : (s.memWrite adr v).draws = s.draws := by unfold State.memWrite; split <;> rfl
@[simp] theorem State.memWrite_resets (adr : Word) (v : Byte) : (s.memWrite adr v).resets = s.resets := by unfold State.memWrite; split <;> rfl
@[simp] theorem State.memWrite_reg (adr : Word) (v : Byte) (r : Reg) : (s.memWrite adr v).reg r = s.reg r := by unfold State.memWrite; split <;> rfl
@[simp] theorem State.memWrite_bc (adr : Word) (v : Byte) : (s.memWrite adr v).bc = s.bc := by unfold State.memWrite; split <;> rfl
@[simp] theorem State.memWrite_de (adr : Word) (v : Byte) : (s.memWrite adr v).de = s.de := by unfold State.memWrite; split <;> rfl
@[simp] theorem State.memWrite_hl (adr : Word) (v : Byte) : (s.memWrite adr v).hl = s.hl := by unfold State.memWrite; split <;> rfl
@[simp] theorem State.memWrite_kindAt (adr : Word) (v : Byte) (x : Word) : (s.memWrite adr v).kindAt x = s.kindAt x := by unfold State.memWrite; split <;> rfl

/-! ### memRead -/

@[simp] theorem State.memRead_regs (adr : Word) : (s.memRead adr).2.regs = s.regs := by unfold State.memRead; split <;> rfl
@[simp] theorem State.memRead_flags (adr : Word) : (s.memRead adr).2.flags = s.flags := by unfold State.memRead; split <;> rfl
@[simp] theorem State.memRead_sp (adr : Word) : (s.memRead adr).2.sp = s.sp := by unfold State.memRead; split <;> rfl
@[simp] theorem State.memRead_pc (adr : Word) : (s.memRead adr).2.pc = s.pc := by unfold State.memRead; split <;> rfl
@[simp] theorem State.memRead_inte (adr : Word) : (s.memRead adr).2.inte = s.inte := by unfold State.memRead; split <;> rfl
@[simp] theorem State.memRead_halted (adr : Word) : (s.memRead adr).2.halted = s.halted := by unfold State.memRead; split <;> rfl
@[simp] theorem State.memRead_eiDelay (adr : Word) : (s.memRead adr).2.eiDelay = s.eiDelay := by unfold State.memRead; split <;> rfl
@[simp] theorem State.memRead_irq (adr : Word) : (s.memRead adr).2.irq = s.irq := by unfold State.memRead; split <;> rfl
@[simp] theorem State.memRead_mem (adr : Word) : (s.memRead adr).2.mem = s.mem := by unfold State.memRead; split <;> rfl
@[simp] theorem State.memRead_io (adr : Word) : (s.memRead adr).2.io = s.io := by unfold State.memRead; split <;> rfl
@[simp] theorem State.memRead_platform (adr : Word) : (s.memRead adr).2.platform = s.platform := by unfold State.memRead; split <;> rfl
@[simp] theorem State.memRead_inputs (adr : Word) : (s.memRead adr).2.inputs = s.inputs := by unfold State.memRead; split <;> rfl
@[simp] theorem State.memRead_script (adr : Word) : (s.memRead adr).2.script = s.script := by unfold State.memRead; split <;> rfl
@[simp] theorem State.memRead_resets (adr : Word) : (s.memRead adr).2.resets = s.resets := by unfold State.memRead; split <;> rfl
@[simp] theorem State.memRead_reg (adr : Word) (r : Reg) : (s.memRead adr).2.reg r = s.reg r := by unfold State.memRead; split <;> rfl
@[simp] theorem State.memRead_bc (adr : Word) : (s.memRead adr).2.bc = s.bc := by unfold State.memRead; split <;> rfl
@[simp] theorem State.memRead_de (adr : Word) : (s.memRead adr).2.de = s.de := by unfold State.memRead; split <;> rfl
@[simp] theorem State.memRead_hl (adr : Word) : (s.memRead adr).2.hl = s.hl := by unfold State.memRead; split <;> rfl
@[simp] theorem State.memRead_kindAt (adr : Word) (x : Word) : (s.memRead adr).2.kindAt x = s.kindAt x := by unfold State.memRead; split <;> rfl
@[simp] theorem State.memRead_content (adr : Word) (x : Word) : (s.memRead adr).2.content x = s.content x := by unfold State.memRead; split <;> rfl

/-! ### pswFill -/

@[simp] theorem State.pswFill_regs : s.pswFill.2.regs = s.regs := by unfold State.pswFill; split <;> rfl
@[simp] theorem State.pswFill_flags : s.pswFill.2.flags = s.flags := by unfold State.pswFill; split <;> rfl
@[simp] theorem State.pswFill_sp : s.pswFill.2.sp = s.sp := by unfold State.pswFill; split <;> rfl
@[simp] theorem State.pswFill_pc : s.pswFill.2.pc = s.pc := by unfold State.pswFill; split <;> rfl
@[simp] theorem State.pswFill_inte : s.pswFill.2.inte = s.inte := by unfold State.pswFill; split <;> rfl
@[simp] theorem State.pswFill_halted : s.pswFill.2.halted = s.halted := by unfold State.pswFill; split <;> rfl
@[simp] theorem State.pswFill_eiDelay : s.pswFill.2.eiDelay = s.eiDelay := by unfold State.pswFill; split <;> rfl
@[simp] theorem State.pswFill_irq : s.pswFill.2.irq = s.irq := by unfold State.pswFill; split <;> rfl
@[simp] theorem State.pswFill_mem : s.pswFill.2.mem = s.mem := by unfold State.pswFill; split <;> rfl
@[simp] theorem State.pswFill_io : s.pswFill.2.io = s.io := by unfold State.pswFill; split <;> rfl
@[simp] theorem State.pswFill_platform : s.pswFill.2.platform = s.platform := by unfold State.pswFill; split <;> rfl
@[simp] theorem State.pswFill_inputs : s.pswFill.2.inputs = s.inputs := by unfold State.pswFill; split <;> rfl
@[simp] theorem State.pswFill_script : s.pswFill.2.script = s.script := by unfold State.pswFill; split <;> rfl
@[simp] theorem State.pswFill_resets : s.pswFill.2.resets = s.resets := by unfold State.pswFill; split <;> rfl
@[simp] theorem State.pswFill_reg (r : Reg) : s.pswFill.2.reg r = s.reg r := by unfold State.pswFill; split <;> rfl
@[simp] theorem State.pswFill_bc : s.pswFill.2.bc = s.bc := by unfold State.pswFill; split <;> rfl
@[simp] theorem State.pswFill_de : s.pswFill.2.de = s.de := by unfold State.pswFill; split <;> rfl
@[simp] theorem State.pswFill_hl : s.pswFill.2.hl = s.hl := by unfold State.pswFill; split <;> rfl
@[simp] theorem State.pswFill_kindAt (x : Word) : s.pswFill.2.kindAt x = s.kindAt x := by unfold State.pswFill; split <;> rfl
@[simp] theorem State.pswFill_content (x : Word) : s.pswFill.2.content x = s.content x := by unfold State.pswFill; split <;> rfl

/-! ### ioRead -/

@[simp] theorem State.ioRead_regs (port : Byte) : (s.ioRead port).2.regs = s.regs := by unfold State.ioRead; split <;> rfl
@[simp] theorem State.ioRead_flags (port : Byte) : (s.ioRead port).2.flags = s.flags := by unfold State.ioRead; split <;> rfl
@[simp] theorem State.ioRead_sp (port : Byte) : (s.ioRead port).2.sp = s.sp := by unfold State.ioRead; split <;> rfl
@[simp] theorem State.ioRead_pc (port : Byte) : (s.ioRead port).2.pc = s.pc := by unfold State.ioRead; split <;> rfl
@[simp] theorem State.ioRead_inte (port : Byte) : (s.ioRead port).2.inte = s.inte := by unfold State.ioRead; split <;> rfl
@[simp] theorem State.ioRead_halted (port : Byte) : (s.ioRead port).2.halted = s.halted := by unfold State.ioRead; split <;> rfl
@[simp] theorem State.ioRead_eiDelay (port : Byte) : (s.ioRead port).2.eiDelay = s.eiDelay := by unfold State.ioRead; split <;> rfl
@[simp] theorem State.ioRead_irq (port : Byte) : (s.ioRead port).2.irq = s.irq := by unfold State.ioRead; split <;> rfl
@[simp] theorem State.ioRead_mem (port : Byte) : (s.ioRead port).2.mem = s.mem := by unfold State.ioRead; split <;> rfl
@[simp] theorem State.ioRead_platform (port : Byte) : (s.ioRead port).2.platform = s.platform := by unfold State.ioRead; split <;> rfl
@[simp] theorem State.ioRead_inputs (port : Byte) : (s.ioRead port).2.inputs = s.inputs := by unfold State.ioRead; split <;> rfl
@[simp] theorem State.ioRead_script (port : Byte) : (s.ioRead port).2.script = s.script := by unfold State.ioRead; split <;> rfl
@[simp] theorem State.ioRead_resets (port : Byte) : (s.ioRead port).2.resets = s.resets := by unfold State.ioRead; split <;> rfl
@[simp] theorem State.ioRead_reg (port : Byte) (r : Reg) : (s.ioRead port).2.reg r = s.reg r := by unfold State.ioRead; split <;> rfl
@[simp] theorem State.ioRead_bc (port : Byte) : (s.ioRead port).2.bc = s.bc := by unfold State.ioRead; split <;> rfl
@[simp] theorem State.ioRead_de (port : Byte) : (s.ioRead port).2.de = s.de := by unfold State.ioRead; split <;> rfl
@[simp] theorem State.ioRead_hl (port : Byte) : (s.ioRead port).2.hl = s.hl := by unfold State.ioRead; split <;> rfl
@[simp] theorem State.ioRead_kindAt (port : Byte) (x : Word) : (s.ioRead port).2.kindAt x = s.kindAt x := by unfold State.ioRead; split <;> rfl
@[simp] theorem State.ioRead_content (port : Byte) (x : Word) : (s.ioRead port).2.content x = s.content x := by unfold State.ioRead; split <;> rfl

/-! ### Registers read back -/

@[simp] theorem State.reg_setReg (r q : Reg) (v : Byte) :
    (s.setReg r v).reg q = if q = r then v else s.reg q := by cases r <;> cases q <;> rfl

@[simp] theorem State.setBC_bc (v : Word) : (s.setBC v).bc = v := joinBytes_high_low v
@[simp] theorem State.setBC_de (v : Word) : (s.setBC v).de = s.de := rfl
@[simp] theorem State.setBC_hl (v : Word) : (s.setBC v).hl = s.hl := rfl
@[simp] theorem State.setDE_bc (v : Word) : (s.setDE v).bc = s.bc := rfl
@[simp] theorem State.setDE_de (v : Word) : (s.setDE v).de = v := joinBytes_high_low v
@[simp] theorem State.setDE_hl (v : Word) : (s.setDE v).hl = s.hl := rfl
@[simp] theorem State.setHL_bc (v : Word) : (s.setHL v).bc = s.bc := rfl
@[simp] theorem State.setHL_de (v : Word) : (s.setHL v).de = s.de := rfl
@[simp] theorem State.setHL_hl (v : Word) : (s.setHL v).hl = v := joinBytes_high_low v

end Sys2Proof.Machine
end

