-- ==== Sys2Proof/Laws/Ops.lean ====
section
/-! SUPPORT. One lemma for each shared operation that says what it can do: the value it gives, the
fields it changes, and what a byte of memory reads as afterwards. Statements cite these and unfold
nothing. -/

namespace Sys2Proof.Machine

variable (s : State)

/-! ### MemRead and MemWrite -/

theorem State.memRead_value (adr : Word) :
    (s.memRead adr).1 = if s.kindAt adr = .absent then Config.floatingBus s.draws adr else s.content adr := by
  unfold State.memRead
  split <;> simp_all

theorem State.memRead_draws (adr : Word) :
    (s.memRead adr).2.draws = if s.kindAt adr = .absent then s.draws + 1 else s.draws := by
  unfold State.memRead
  split <;> simp_all

/-- A read changes nothing but the count of draws. -/
theorem State.memRead_state (adr : Word) :
    (s.memRead adr).2 = { s with draws := (s.memRead adr).2.draws } := by
  unfold State.memRead
  split <;> rfl

/-- A write changes nothing but memory. -/
theorem State.memWrite_state (adr : Word) (v : Byte) :
    s.memWrite adr v = { s with mem := (s.memWrite adr v).mem } := by
  unfold State.memWrite
  split <;> rfl

theorem State.memWrite_mem (adr : Word) (v : Byte) :
    (s.memWrite adr v).mem = if s.kindAt adr = .ram then s.mem.store adr.toNat v else s.mem := by
  unfold State.memWrite
  split <;> simp_all

/-- What every byte reads as after a write: RAM takes the byte, everything else is as it was. -/
theorem State.memWrite_content (adr x : Word) (v : Byte) :
    (s.memWrite adr v).content x = if x = adr ∧ s.kindAt x = .ram then v else s.content x := by
  simp only [State.content, State.memWrite_mem, State.memWrite_kindAt, State.memWrite_resets]
  by_cases hr : s.kindAt adr = .ram
  · simp only [hr, if_true, Memory.cell_store]
    by_cases hx : x = adr
    · subst hx; simp [hr]
    · have : x.toNat ≠ adr.toNat := fun h => hx (BitVec.eq_of_toNat_eq h)
      simp [hx, this]
  · simp only [hr, if_false]
    by_cases hx : x = adr
    · subst hx; simp [hr]
    · simp [hx]

theorem State.memWrite_wf (adr : Word) (v : Byte) (h : s.mem.wf = true) :
    (s.memWrite adr v).mem.wf = true := by
  rw [State.memWrite_mem]
  split
  · exact Memory.wf_store adr v h
  · exact h

/-- The content of an address depends on memory, the platform and the count of resets alone. -/
theorem State.content_congr {s t : State} (hm : t.mem = s.mem) (hp : t.platform = s.platform)
    (hr : t.resets = s.resets) (x : Word) : t.content x = s.content x := by
  simp only [State.content, State.kindAt, hm, hp, hr]

/-! ### Two bytes -/

theorem State.memRead16_value (adr : Word) :
    (s.memRead16 adr).1 = joinBytes ((s.memRead adr).2.memRead (adr + 1)).1 (s.memRead adr).1 := rfl

theorem State.memRead16_state (adr : Word) :
    (s.memRead16 adr).2 = { s with draws := (s.memRead16 adr).2.draws } := by
  unfold State.memRead16
  rw [State.memRead_state, State.memRead_state]

/-- Where no address is ABSENT, a two byte read is the two contents, and changes nothing. -/
theorem State.memRead16_present (adr : Word) (h : s.kindAt adr ≠ .absent)
    (h1 : s.kindAt (adr + 1) ≠ .absent) :
    s.memRead16 adr = (joinBytes (s.content (adr + 1)) (s.content adr), s) := by
  have hr : ∀ x, s.kindAt x ≠ .absent → s.memRead x = (s.content x, s) := by
    intro x hx
    unfold State.memRead
    split
    · exact absurd ‹_› hx
    · rfl
  simp only [State.memRead16, hr adr h, hr (adr + 1) h1]

theorem State.memWrite16_state (adr v : Word) :
    s.memWrite16 adr v = { s with mem := (s.memWrite16 adr v).mem } := by
  unfold State.memWrite16
  rw [State.memWrite_state, State.memWrite_state]

theorem State.memWrite16_content (adr v x : Word) :
    (s.memWrite16 adr v).content x =
      if x = adr + 1 ∧ s.kindAt x = .ram then highByte v
      else if x = adr ∧ s.kindAt x = .ram then lowByte v else s.content x := by
  simp only [State.memWrite16, State.memWrite_content, State.memWrite_kindAt]

theorem State.memWrite16_wf (adr v : Word) (h : s.mem.wf = true) :
    (s.memWrite16 adr v).mem.wf = true :=
  State.memWrite_wf _ _ _ (State.memWrite_wf _ _ _ h)

/-! ### The stack -/

theorem State.push16_state (v : Word) :
    s.push16 v = { s with mem := (s.push16 v).mem, sp := s.sp - 2 } := by
  unfold State.push16 State.setSP
  rw [State.memWrite_state, State.memWrite_state]

theorem State.push16_content (v x : Word) :
    (s.push16 v).content x =
      if x = s.sp - 2 ∧ s.kindAt x = .ram then lowByte v
      else if x = s.sp - 1 ∧ s.kindAt x = .ram then highByte v else s.content x := by
  simp only [State.push16, State.setSP_content, State.memWrite_content, State.memWrite_kindAt]

theorem State.push16_wf (v : Word) (h : s.mem.wf = true) : (s.push16 v).mem.wf = true :=
  State.memWrite_wf _ _ _ (State.memWrite_wf _ _ _ h)

theorem State.pop16_value : s.pop16.1 = (s.memRead16 s.sp).1 := rfl

theorem State.pop16_state :
    s.pop16.2 = { s with sp := s.sp + 2, draws := (s.memRead16 s.sp).2.draws } := by
  show (s.memRead16 s.sp).2.setSP (s.sp + 2) = _
  conv_lhs => rw [State.memRead16_state]
  rfl

/-! ### Ports -/

theorem State.ioRead_state (port : Byte) :
    (s.ioRead port).2 =
      { s with io := s.io ++ [.read port (s.ioRead port).1], draws := (s.ioRead port).2.draws } := by
  unfold State.ioRead
  split <;> rfl

theorem State.ioRead_value (port : Byte) :
    (s.ioRead port).1 = s.inputs.portData.getD (Config.inPort port s.io s.draws) := by
  unfold State.ioRead
  split <;> simp_all

theorem State.ioRead_draws (port : Byte) :
    (s.ioRead port).2.draws = if s.inputs.portData.isSome then s.draws else s.draws + 1 := by
  unfold State.ioRead
  split <;> simp_all

/-! ### Bits 5 and 1 of the pushed F -/

theorem State.pswFill_state : s.pswFill.2 = { s with draws := s.pswFill.2.draws } := by
  unfold State.pswFill
  split <;> rfl

theorem State.pswFill_8080 (h : s.platform.variant = .i8080) : s.pswFill = ((false, true), s) := by
  simp [State.pswFill, h]

/-! ### Interrupt entry, call and return -/

theorem State.enterInterrupt_state (target : Word) :
    s.enterInterrupt target =
      { s with inte := false, halted := false, eiDelay := false, sp := s.sp - 2, pc := target,
               mem := (s.enterInterrupt target).mem } := by
  unfold State.enterInterrupt State.jumpTo
  rw [State.push16_state]

theorem State.enterInterrupt_content (target x : Word) :
    (s.enterInterrupt target).content x =
      if x = s.sp - 2 ∧ s.kindAt x = .ram then lowByte s.pc
      else if x = s.sp - 1 ∧ s.kindAt x = .ram then highByte s.pc else s.content x := by
  rw [State.enterInterrupt, State.jumpTo_content, State.push16_content]
  rfl

theorem State.enterInterrupt_wf (target : Word) (h : s.mem.wf = true) :
    (s.enterInterrupt target).mem.wf = true :=
  State.push16_wf { s with inte := false, halted := false } s.pc h

theorem State.callTo_state (ret target : Word) :
    s.callTo ret target =
      { s with eiDelay := false, sp := s.sp - 2, pc := target, mem := (s.callTo ret target).mem } := by
  unfold State.callTo State.jumpTo
  rw [State.push16_state]

theorem State.callTo_content (ret target x : Word) :
    (s.callTo ret target).content x =
      if x = s.sp - 2 ∧ s.kindAt x = .ram then lowByte ret
      else if x = s.sp - 1 ∧ s.kindAt x = .ram then highByte ret else s.content x := by
  rw [State.callTo, State.jumpTo_content, State.push16_content]

theorem State.returnFromStack_state :
    s.returnFromStack =
      { s with eiDelay := false, sp := s.sp + 2, pc := (s.memRead16 s.sp).1,
               draws := (s.memRead16 s.sp).2.draws } := by
  show s.pop16.2.jumpTo s.pop16.1 = _
  rw [State.pop16_state, State.pop16_value]
  rfl

/-! ### A load from outside, and reset -/

theorem State.load_wf (adr : Word) (v : Byte) (h : s.mem.wf = true) : (s.load adr v).mem.wf = true :=
  Memory.wf_store adr v h

theorem State.applyReset_wf (h : s.mem.wf = true) : s.applyReset.mem.wf = true :=
  Memory.wf_filter _ h

theorem State.reset_mem_wf : State.reset.mem.wf = true := rfl

/-- Reset leaves what ROM reads as. -/
theorem State.applyReset_content_rom (x : Word) (h : s.kindAt x = .rom) :
    s.applyReset.content x = s.content x := by
  have hk : keptByReset s.platform = fun c => (kindIn s.platform.map c.1 == MemKind.rom) := by
    funext c
    unfold keptByReset
    cases kindIn s.platform.map c.1 <;> rfl
  have h' : kindIn s.platform.map x.toNat = .rom := h
  have hc : s.applyReset.mem.cell x.toNat = s.mem.cell x.toNat := by
    show Memory.cell (List.filter (keptByReset s.platform) s.mem) x.toNat = _
    rw [hk, Memory.cell_filter s.mem (fun a => kindIn s.platform.map a == MemKind.rom)]
    simp [h']
  have hk2 : s.applyReset.kindAt x = .rom := h
  simp only [State.content, hc, hk2, h]

end Sys2Proof.Machine
end

