-- ==== Sys2Proof/Laws/Step.lean ====
section
/-! SUPPORT. What one step can do: the inversion of `step`, of the fetch and of the sampling of the
inputs. -/

namespace Sys2Proof.Machine

variable (s : State)

/-- Sampling the inputs changes the inputs, the script and, on the 8085, the latch I75. -/
theorem State.sampleInputs_state :
    s.sampleInputs =
      { s with inputs := s.script.headD Inputs.quiet, script := s.script.tail,
               irq := s.sampleInputs.irq } := by
  unfold State.sampleInputs State.latchRst75 State.nextInputs
  cases h : s.script <;> cases hv : s.platform.variant <;> simp_all

/-- The 8085's latch I75 after the inputs are sampled; the rest of its state is as it was. -/
theorem State.sampleInputs_irq :
    s.sampleInputs.irq =
      match s.platform.variant with
      | .i8080 => s.irq
      | .i8085 => { s.irq with i75 := s.irq.i75 || (s.script.headD Inputs.quiet).rst75Edge } := by
  unfold State.sampleInputs State.latchRst75 State.nextInputs
  cases h : s.script <;> cases hv : s.platform.variant <;> simp_all

/-- A fetch changes nothing but the count of draws. -/
theorem State.fetch_state : s.fetch.2 = { s with draws := s.fetch.2.draws } := by
  unfold State.fetch
  dsimp only
  split
  · exact State.memRead_state s s.pc
  · rw [State.memRead_state, State.memRead_state s s.pc]
  · rw [State.memRead_state, State.memRead_state, State.memRead_state s s.pc]

/-- What a step that answers a next state did: it took an event, or stayed halted, or ran the
instruction at `pc`. -/
theorem step_cases {s t : State} (h : step s = .next t) :
    (∃ e, s.sampleInputs.boundaryEvent = some e ∧ takeEvent e s.sampleInputs = .next t) ∨
    (s.sampleInputs.boundaryEvent = none ∧ s.sampleInputs.halted = true ∧ t = s.sampleInputs) ∨
    (s.sampleInputs.boundaryEvent = none ∧ s.sampleInputs.halted = false ∧
      ∃ i, decode s.sampleInputs.platform.variant s.sampleInputs.fetch.1.op
          s.sampleInputs.fetch.1.b2 s.sampleInputs.fetch.1.b3 = .ok i ∧
        exec i s.sampleInputs.fetch.2 = .next t) := by
  simp only [step] at h
  split at h
  · next e he => exact .inl ⟨e, he, h⟩
  · next he =>
    split at h
    · next hh => exact .inr (.inl ⟨he, hh, by cases h; rfl⟩)
    · next hh =>
      refine .inr (.inr ⟨he, by simpa using hh, ?_⟩)
      simp only [runInstruction] at h
      split at h
      · next i hi => exact ⟨i, hi, h⟩
      · cases h

/-- What a taken event makes of the state. -/
theorem takeEvent_cases {e : BoundaryEvent} {s t : State} (h : takeEvent e s = .next t) :
    (e = .reset ∧ t = s.applyReset) ∨
    (e = .trap ∧ t = s.enterTrap) ∨
    (e = .rst75 ∧ t = s.enterRst75) ∨
    (e = .rst65 ∧ t = s.enterInterrupt 0x0034) ∨
    (e = .rst55 ∧ t = s.enterInterrupt 0x002C) ∨
    (∃ n, e = .intr n ∧ t = s.enterInterrupt (restartAddress n)) := by
  cases e <;> simp_all [takeEvent]

end Sys2Proof.Machine
end

