-- ==== Sys2Proof/Laws/Fields.lean ====
section
/-! SUPPORT. One lemma for each field under each shared operation of two or more accesses, under
interrupt entry, call and return, under the sampling of the inputs and under the fetch. What each
writes is in Laws/Ops.lean and Laws/Step.lean. -/

namespace Sys2Proof.Machine

variable (s : State)

/-! ### memWrite16 -/

@[simp] theorem State.memWrite16_regs (adr v : Word) : (s.memWrite16 adr v).regs = s.regs := by rw [State.memWrite16_state]
@[simp] theorem State.memWrite16_flags (adr v : Word) : (s.memWrite16 adr v).flags = s.flags := by rw [State.memWrite16_state]
@[simp] theorem State.memWrite16_sp (adr v : Word) : (s.memWrite16 adr v).sp = s.sp := by rw [State.memWrite16_state]
@[simp] theorem State.memWrite16_pc (adr v : Word) : (s.memWrite16 adr v).pc = s.pc := by rw [State.memWrite16_state]
@[simp] theorem State.memWrite16_inte (adr v : Word) : (s.memWrite16 adr v).inte = s.inte := by rw [State.memWrite16_state]
@[simp] theorem State.memWrite16_halted (adr v : Word) : (s.memWrite16 adr v).halted = s.halted := by rw [State.memWrite16_state]
@[simp] theorem State.memWrite16_eiDelay (adr v : Word) : (s.memWrite16 adr v).eiDelay = s.eiDelay := by rw [State.memWrite16_state]
@[simp] theorem State.memWrite16_irq (adr v : Word) : (s.memWrite16 adr v).irq = s.irq := by rw [State.memWrite16_state]
@[simp] theorem State.memWrite16_io (adr v : Word) : (s.memWrite16 adr v).io = s.io := by rw [State.memWrite16_state]
@[simp] theorem State.memWrite16_platform (adr v : Word) : (s.memWrite16 adr v).platform = s.platform := by rw [State.memWrite16_state]
@[simp] theorem State.memWrite16_inputs (adr v : Word) : (s.memWrite16 adr v).inputs = s.inputs := by rw [State.memWrite16_state]
@[simp] theorem State.memWrite16_script (adr v : Word) : (s.memWrite16 adr v).script = s.script := by rw [State.memWrite16_state]
@[simp] theorem State.memWrite16_draws (adr v : Word) : (s.memWrite16 adr v).draws = s.draws := by rw [State.memWrite16_state]
@[simp] theorem State.memWrite16_resets (adr v : Word) : (s.memWrite16 adr v).resets = s.resets := by rw [State.memWrite16_state]
@[simp] theorem State.memWrite16_kindAt (adr v : Word) (x : Word) : (s.memWrite16 adr v).kindAt x = s.kindAt x := by rw [State.memWrite16_state]; rfl

/-! ### push16 -/

@[simp] theorem State.push16_regs (v : Word) : (s.push16 v).regs = s.regs := by rw [State.push16_state]
@[simp] theorem State.push16_flags (v : Word) : (s.push16 v).flags = s.flags := by rw [State.push16_state]
@[simp] theorem State.push16_sp (v : Word) : (s.push16 v).sp = s.sp - 2 := by rw [State.push16_state]
@[simp] theorem State.push16_pc (v : Word) : (s.push16 v).pc = s.pc := by rw [State.push16_state]
@[simp] theorem State.push16_inte (v : Word) : (s.push16 v).inte = s.inte := by rw [State.push16_state]
@[simp] theorem State.push16_halted (v : Word) : (s.push16 v).halted = s.halted := by rw [State.push16_state]
@[simp] theorem State.push16_eiDelay (v : Word) : (s.push16 v).eiDelay = s.eiDelay := by rw [State.push16_state]
@[simp] theorem State.push16_irq (v : Word) : (s.push16 v).irq = s.irq := by rw [State.push16_state]
@[simp] theorem State.push16_io (v : Word) : (s.push16 v).io = s.io := by rw [State.push16_state]
@[simp] theorem State.push16_platform (v : Word) : (s.push16 v).platform = s.platform := by rw [State.push16_state]
@[simp] theorem State.push16_inputs (v : Word) : (s.push16 v).inputs = s.inputs := by rw [State.push16_state]
@[simp] theorem State.push16_script (v : Word) : (s.push16 v).script = s.script := by rw [State.push16_state]
@[simp] theorem State.push16_draws (v : Word) : (s.push16 v).draws = s.draws := by rw [State.push16_state]
@[simp] theorem State.push16_resets (v : Word) : (s.push16 v).resets = s.resets := by rw [State.push16_state]
@[simp] theorem State.push16_kindAt (v : Word) (x : Word) : (s.push16 v).kindAt x = s.kindAt x := by rw [State.push16_state]; rfl

/-! ### memRead16 -/

@[simp] theorem State.memRead16_regs (adr : Word) : ((s.memRead16 adr).2).regs = s.regs := by rw [State.memRead16_state]
@[simp] theorem State.memRead16_flags (adr : Word) : ((s.memRead16 adr).2).flags = s.flags := by rw [State.memRead16_state]
@[simp] theorem State.memRead16_sp (adr : Word) : ((s.memRead16 adr).2).sp = s.sp := by rw [State.memRead16_state]
@[simp] theorem State.memRead16_pc (adr : Word) : ((s.memRead16 adr).2).pc = s.pc := by rw [State.memRead16_state]
@[simp] theorem State.memRead16_inte (adr : Word) : ((s.memRead16 adr).2).inte = s.inte := by rw [State.memRead16_state]
@[simp] theorem State.memRead16_halted (adr : Word) : ((s.memRead16 adr).2).halted = s.halted := by rw [State.memRead16_state]
@[simp] theorem State.memRead16_eiDelay (adr : Word) : ((s.memRead16 adr).2).eiDelay = s.eiDelay := by rw [State.memRead16_state]
@[simp] theorem State.memRead16_irq (adr : Word) : ((s.memRead16 adr).2).irq = s.irq := by rw [State.memRead16_state]
@[simp] theorem State.memRead16_mem (adr : Word) : ((s.memRead16 adr).2).mem = s.mem := by rw [State.memRead16_state]
@[simp] theorem State.memRead16_io (adr : Word) : ((s.memRead16 adr).2).io = s.io := by rw [State.memRead16_state]
@[simp] theorem State.memRead16_platform (adr : Word) : ((s.memRead16 adr).2).platform = s.platform := by rw [State.memRead16_state]
@[simp] theorem State.memRead16_inputs (adr : Word) : ((s.memRead16 adr).2).inputs = s.inputs := by rw [State.memRead16_state]
@[simp] theorem State.memRead16_script (adr : Word) : ((s.memRead16 adr).2).script = s.script := by rw [State.memRead16_state]
@[simp] theorem State.memRead16_resets (adr : Word) : ((s.memRead16 adr).2).resets = s.resets := by rw [State.memRead16_state]
@[simp] theorem State.memRead16_kindAt (adr : Word) (x : Word) : ((s.memRead16 adr).2).kindAt x = s.kindAt x := by rw [State.memRead16_state]; rfl
@[simp] theorem State.memRead16_content (adr : Word) (x : Word) : ((s.memRead16 adr).2).content x = s.content x := by rw [State.memRead16_state]; rfl

/-! ### pop16 -/

@[simp] theorem State.pop16_regs : (s.pop16.2).regs = s.regs := by rw [State.pop16_state]
@[simp] theorem State.pop16_flags : (s.pop16.2).flags = s.flags := by rw [State.pop16_state]
@[simp] theorem State.pop16_sp : (s.pop16.2).sp = s.sp + 2 := by rw [State.pop16_state]
@[simp] theorem State.pop16_pc : (s.pop16.2).pc = s.pc := by rw [State.pop16_state]
@[simp] theorem State.pop16_inte : (s.pop16.2).inte = s.inte := by rw [State.pop16_state]
@[simp] theorem State.pop16_halted : (s.pop16.2).halted = s.halted := by rw [State.pop16_state]
@[simp] theorem State.pop16_eiDelay : (s.pop16.2).eiDelay = s.eiDelay := by rw [State.pop16_state]
@[simp] theorem State.pop16_irq : (s.pop16.2).irq = s.irq := by rw [State.pop16_state]
@[simp] theorem State.pop16_mem : (s.pop16.2).mem = s.mem := by rw [State.pop16_state]
@[simp] theorem State.pop16_io : (s.pop16.2).io = s.io := by rw [State.pop16_state]
@[simp] theorem State.pop16_platform : (s.pop16.2).platform = s.platform := by rw [State.pop16_state]
@[simp] theorem State.pop16_inputs : (s.pop16.2).inputs = s.inputs := by rw [State.pop16_state]
@[simp] theorem State.pop16_script : (s.pop16.2).script = s.script := by rw [State.pop16_state]
@[simp] theorem State.pop16_resets : (s.pop16.2).resets = s.resets := by rw [State.pop16_state]
@[simp] theorem State.pop16_kindAt (x : Word) : (s.pop16.2).kindAt x = s.kindAt x := by rw [State.pop16_state]; rfl
@[simp] theorem State.pop16_content (x : Word) : (s.pop16.2).content x = s.content x := by rw [State.pop16_state]; rfl

/-! ### enterInterrupt -/

@[simp] theorem State.enterInterrupt_regs (target : Word) : (s.enterInterrupt target).regs = s.regs := by rw [State.enterInterrupt_state]
@[simp] theorem State.enterInterrupt_flags (target : Word) : (s.enterInterrupt target).flags = s.flags := by rw [State.enterInterrupt_state]
@[simp] theorem State.enterInterrupt_sp (target : Word) : (s.enterInterrupt target).sp = s.sp - 2 := by rw [State.enterInterrupt_state]
@[simp] theorem State.enterInterrupt_pc (target : Word) : (s.enterInterrupt target).pc = target := by rw [State.enterInterrupt_state]
@[simp] theorem State.enterInterrupt_inte (target : Word) : (s.enterInterrupt target).inte = false := by rw [State.enterInterrupt_state]
@[simp] theorem State.enterInterrupt_halted (target : Word) : (s.enterInterrupt target).halted = false := by rw [State.enterInterrupt_state]
@[simp] theorem State.enterInterrupt_eiDelay (target : Word) : (s.enterInterrupt target).eiDelay = false := by rw [State.enterInterrupt_state]
@[simp] theorem State.enterInterrupt_irq (target : Word) : (s.enterInterrupt target).irq = s.irq := by rw [State.enterInterrupt_state]
@[simp] theorem State.enterInterrupt_io (target : Word) : (s.enterInterrupt target).io = s.io := by rw [State.enterInterrupt_state]
@[simp] theorem State.enterInterrupt_platform (target : Word) : (s.enterInterrupt target).platform = s.platform := by rw [State.enterInterrupt_state]
@[simp] theorem State.enterInterrupt_inputs (target : Word) : (s.enterInterrupt target).inputs = s.inputs := by rw [State.enterInterrupt_state]
@[simp] theorem State.enterInterrupt_script (target : Word) : (s.enterInterrupt target).script = s.script := by rw [State.enterInterrupt_state]
@[simp] theorem State.enterInterrupt_draws (target : Word) : (s.enterInterrupt target).draws = s.draws := by rw [State.enterInterrupt_state]
@[simp] theorem State.enterInterrupt_resets (target : Word) : (s.enterInterrupt target).resets = s.resets := by rw [State.enterInterrupt_state]
@[simp] theorem State.enterInterrupt_kindAt (target : Word) (x : Word) : (s.enterInterrupt target).kindAt x = s.kindAt x := by rw [State.enterInterrupt_state]; rfl

/-! ### callTo -/

@[simp] theorem State.callTo_regs (ret target : Word) : (s.callTo ret target).regs = s.regs := by rw [State.callTo_state]
@[simp] theorem State.callTo_flags (ret target : Word) : (s.callTo ret target).flags = s.flags := by rw [State.callTo_state]
@[simp] theorem State.callTo_sp (ret target : Word) : (s.callTo ret target).sp = s.sp - 2 := by rw [State.callTo_state]
@[simp] theorem State.callTo_pc (ret target : Word) : (s.callTo ret target).pc = target := by rw [State.callTo_state]
@[simp] theorem State.callTo_inte (ret target : Word) : (s.callTo ret target).inte = s.inte := by rw [State.callTo_state]
@[simp] theorem State.callTo_halted (ret target : Word) : (s.callTo ret target).halted = s.halted := by rw [State.callTo_state]
@[simp] theorem State.callTo_eiDelay (ret target : Word) : (s.callTo ret target).eiDelay = false := by rw [State.callTo_state]
@[simp] theorem State.callTo_irq (ret target : Word) : (s.callTo ret target).irq = s.irq := by rw [State.callTo_state]
@[simp] theorem State.callTo_io (ret target : Word) : (s.callTo ret target).io = s.io := by rw [State.callTo_state]
@[simp] theorem State.callTo_platform (ret target : Word) : (s.callTo ret target).platform = s.platform := by rw [State.callTo_state]
@[simp] theorem State.callTo_inputs (ret target : Word) : (s.callTo ret target).inputs = s.inputs := by rw [State.callTo_state]
@[simp] theorem State.callTo_script (ret target : Word) : (s.callTo ret target).script = s.script := by rw [State.callTo_state]
@[simp] theorem State.callTo_draws (ret target : Word) : (s.callTo ret target).draws = s.draws := by rw [State.callTo_state]
@[simp] theorem State.callTo_resets (ret target : Word) : (s.callTo ret target).resets = s.resets := by rw [State.callTo_state]
@[simp] theorem State.callTo_kindAt (ret target : Word) (x : Word) : (s.callTo ret target).kindAt x = s.kindAt x := by rw [State.callTo_state]; rfl

/-! ### returnFromStack -/

@[simp] theorem State.returnFromStack_regs : (s.returnFromStack).regs = s.regs := by rw [State.returnFromStack_state]
@[simp] theorem State.returnFromStack_flags : (s.returnFromStack).flags = s.flags := by rw [State.returnFromStack_state]
@[simp] theorem State.returnFromStack_sp : (s.returnFromStack).sp = s.sp + 2 := by rw [State.returnFromStack_state]
@[simp] theorem State.returnFromStack_pc : (s.returnFromStack).pc = (s.memRead16 s.sp).1 := by rw [State.returnFromStack_state]
@[simp] theorem State.returnFromStack_inte : (s.returnFromStack).inte = s.inte := by rw [State.returnFromStack_state]
@[simp] theorem State.returnFromStack_halted : (s.returnFromStack).halted = s.halted := by rw [State.returnFromStack_state]
@[simp] theorem State.returnFromStack_eiDelay : (s.returnFromStack).eiDelay = false := by rw [State.returnFromStack_state]
@[simp] theorem State.returnFromStack_irq : (s.returnFromStack).irq = s.irq := by rw [State.returnFromStack_state]
@[simp] theorem State.returnFromStack_mem : (s.returnFromStack).mem = s.mem := by rw [State.returnFromStack_state]
@[simp] theorem State.returnFromStack_io : (s.returnFromStack).io = s.io := by rw [State.returnFromStack_state]
@[simp] theorem State.returnFromStack_platform : (s.returnFromStack).platform = s.platform := by rw [State.returnFromStack_state]
@[simp] theorem State.returnFromStack_inputs : (s.returnFromStack).inputs = s.inputs := by rw [State.returnFromStack_state]
@[simp] theorem State.returnFromStack_script : (s.returnFromStack).script = s.script := by rw [State.returnFromStack_state]
@[simp] theorem State.returnFromStack_resets : (s.returnFromStack).resets = s.resets := by rw [State.returnFromStack_state]
@[simp] theorem State.returnFromStack_kindAt (x : Word) : (s.returnFromStack).kindAt x = s.kindAt x := by rw [State.returnFromStack_state]; rfl
@[simp] theorem State.returnFromStack_content (x : Word) : (s.returnFromStack).content x = s.content x := by rw [State.returnFromStack_state]; rfl

/-! ### sampleInputs -/

@[simp] theorem State.sampleInputs_regs : (s.sampleInputs).regs = s.regs := by rw [State.sampleInputs_state]
@[simp] theorem State.sampleInputs_flags : (s.sampleInputs).flags = s.flags := by rw [State.sampleInputs_state]
@[simp] theorem State.sampleInputs_sp : (s.sampleInputs).sp = s.sp := by rw [State.sampleInputs_state]
@[simp] theorem State.sampleInputs_pc : (s.sampleInputs).pc = s.pc := by rw [State.sampleInputs_state]
@[simp] theorem State.sampleInputs_inte : (s.sampleInputs).inte = s.inte := by rw [State.sampleInputs_state]
@[simp] theorem State.sampleInputs_halted : (s.sampleInputs).halted = s.halted := by rw [State.sampleInputs_state]
@[simp] theorem State.sampleInputs_eiDelay : (s.sampleInputs).eiDelay = s.eiDelay := by rw [State.sampleInputs_state]
@[simp] theorem State.sampleInputs_mem : (s.sampleInputs).mem = s.mem := by rw [State.sampleInputs_state]
@[simp] theorem State.sampleInputs_io : (s.sampleInputs).io = s.io := by rw [State.sampleInputs_state]
@[simp] theorem State.sampleInputs_platform : (s.sampleInputs).platform = s.platform := by rw [State.sampleInputs_state]
@[simp] theorem State.sampleInputs_inputs : (s.sampleInputs).inputs = s.script.headD Inputs.quiet := by rw [State.sampleInputs_state]
@[simp] theorem State.sampleInputs_script : (s.sampleInputs).script = s.script.tail := by rw [State.sampleInputs_state]
@[simp] theorem State.sampleInputs_draws : (s.sampleInputs).draws = s.draws := by rw [State.sampleInputs_state]
@[simp] theorem State.sampleInputs_resets : (s.sampleInputs).resets = s.resets := by rw [State.sampleInputs_state]
@[simp] theorem State.sampleInputs_kindAt (x : Word) : (s.sampleInputs).kindAt x = s.kindAt x := by rw [State.sampleInputs_state]; rfl
@[simp] theorem State.sampleInputs_content (x : Word) : (s.sampleInputs).content x = s.content x := by rw [State.sampleInputs_state]; rfl

/-! ### fetch -/

@[simp] theorem State.fetch_regs : (s.fetch.2).regs = s.regs := by rw [State.fetch_state]
@[simp] theorem State.fetch_flags : (s.fetch.2).flags = s.flags := by rw [State.fetch_state]
@[simp] theorem State.fetch_sp : (s.fetch.2).sp = s.sp := by rw [State.fetch_state]
@[simp] theorem State.fetch_pc : (s.fetch.2).pc = s.pc := by rw [State.fetch_state]
@[simp] theorem State.fetch_inte : (s.fetch.2).inte = s.inte := by rw [State.fetch_state]
@[simp] theorem State.fetch_halted : (s.fetch.2).halted = s.halted := by rw [State.fetch_state]
@[simp] theorem State.fetch_eiDelay : (s.fetch.2).eiDelay = s.eiDelay := by rw [State.fetch_state]
@[simp] theorem State.fetch_irq : (s.fetch.2).irq = s.irq := by rw [State.fetch_state]
@[simp] theorem State.fetch_mem : (s.fetch.2).mem = s.mem := by rw [State.fetch_state]
@[simp] theorem State.fetch_io : (s.fetch.2).io = s.io := by rw [State.fetch_state]
@[simp] theorem State.fetch_platform : (s.fetch.2).platform = s.platform := by rw [State.fetch_state]
@[simp] theorem State.fetch_inputs : (s.fetch.2).inputs = s.inputs := by rw [State.fetch_state]
@[simp] theorem State.fetch_script : (s.fetch.2).script = s.script := by rw [State.fetch_state]
@[simp] theorem State.fetch_resets : (s.fetch.2).resets = s.resets := by rw [State.fetch_state]
@[simp] theorem State.fetch_kindAt (x : Word) : (s.fetch.2).kindAt x = s.kindAt x := by rw [State.fetch_state]; rfl
@[simp] theorem State.fetch_content (x : Word) : (s.fetch.2).content x = s.content x := by rw [State.fetch_state]; rfl

end Sys2Proof.Machine
end

