-- ==== Sys2Proof/Laws/Flags.lean ====
section
/-! SUPPORT. What the additions and subtractions compute, in terms of natural numbers. -/

namespace Sys2Proof.Machine

/-- `add8`: the sum modulo 256, the carry out of bit 7 and the carry out of bit 3
(spec/00_scope.md R11). -/
theorem add8_spec (a b : Byte) (c : Bool) :
    (add8 a b c).value.toNat = (a.toNat + b.toNat + c.toNat) % 256 ∧
    (add8 a b c).cy = decide (255 < a.toNat + b.toNat + c.toNat) ∧
    (add8 a b c).ac = decide (15 < a.toNat % 16 + b.toNat % 16 + c.toNat) := by
  have ha := a.isLt
  have hb := b.isLt
  have hc : c.toNat ≤ 1 := Bool.toNat_le c
  refine ⟨?_, ?_, ?_⟩
  · simp only [add8, BitVec.toNat_setWidth, BitVec.toNat_add, BitVec.toNat_ofBool]
    omega
  · have h9 : ∀ x : BitVec 9, x.getLsbD 8 = decide (256 ≤ x.toNat) := by
      intro x
      rw [show (8 : Nat) = 9 - 1 from rfl, ← BitVec.msb_eq_getLsbD_last, BitVec.msb_eq_decide]
    simp only [add8, h9, BitVec.toNat_setWidth, BitVec.toNat_add, BitVec.toNat_ofBool]
    congr 1
    apply propext
    omega
  · have h5 : ∀ x : BitVec 5, x.getLsbD 4 = decide (16 ≤ x.toNat) := by
      intro x
      rw [show (4 : Nat) = 5 - 1 from rfl, ← BitVec.msb_eq_getLsbD_last, BitVec.msb_eq_decide]
    simp only [add8, h5, BitVec.toNat_setWidth, BitVec.toNat_add, BitVec.toNat_ofBool,
      BitVec.extractLsb'_toNat, Nat.shiftRight_zero]
    congr 1
    apply propext
    omega

/-- `sub8`: the difference modulo 256, the borrow, and AC = 1 exactly when the low digit does not
borrow (spec/00_scope.md R11). -/
theorem sub8_spec (a b : Byte) (bw : Bool) :
    ((sub8 a b bw).value.toNat : Int) = ((a.toNat : Int) - b.toNat - bw.toNat) % 256 ∧
    (sub8 a b bw).cy = decide (a.toNat < b.toNat + bw.toNat) ∧
    (sub8 a b bw).ac = decide (b.toNat % 16 + bw.toNat ≤ a.toNat % 16) := by
  have ha := a.isLt
  have hb := b.isLt
  obtain ⟨h1, h2, h3⟩ := add8_spec a (~~~b) (!bw)
  have hn : (~~~b).toNat = 255 - b.toNat := by simp [BitVec.toNat_not]
  have hw : (!bw).toNat = 1 - bw.toNat := by cases bw <;> rfl
  have hb1 : bw.toNat ≤ 1 := Bool.toNat_le bw
  simp only [sub8, h1, h2, h3, hn, hw]
  refine ⟨by omega, ?_, ?_⟩
  · rw [← decide_not]
    congr 1
    apply propext
    omega
  · congr 1
    apply propext
    omega

@[simp] theorem flagsOfByte_flagByte (f : Flags) (d5 d1 : Bool) :
    flagsOfByte (flagByte f d5 d1) = f := by
  obtain ⟨s, z, ac, p, cy⟩ := f
  cases s <;> cases z <;> cases ac <;> cases p <;> cases cy <;> cases d5 <;> cases d1 <;> rfl

end Sys2Proof.Machine
end

