-- ==== Sys2Proof/Laws/PerInstr.lean ====
section
/-! SUPPORT. A law of the instruction as syntax, made of one lemma per constructor: an encoded
instruction has as many bytes as its first byte tells (spec/30_encoding.md R80, R81). -/

namespace Sys2Proof.Laws.EncodedLength

/-- The opcode byte alone tells how many bytes the instruction has. -/
def Statement (i : Instr) : Prop := (encode i).length = opcodeLength ((encode i).getD 0 0)

theorem movRR (dst src : Reg) : Statement (.movRR dst src) := by cases dst <;> cases src <;> rfl
theorem movRM (dst : Reg) : Statement (.movRM dst) := by cases dst <;> rfl
theorem movMR (src : Reg) : Statement (.movMR src) := by cases src <;> rfl
theorem mviR (dst : Reg) (d8 : Byte) : Statement (.mviR dst d8) := by cases dst <;> rfl
theorem mviM (d8 : Byte) : Statement (.mviM d8) := rfl
theorem stax (rp : IndexPair) : Statement (.stax rp) := by cases rp <;> rfl
theorem ldax (rp : IndexPair) : Statement (.ldax rp) := by cases rp <;> rfl
theorem sta (adr : Word) : Statement (.sta adr) := rfl
theorem lda (adr : Word) : Statement (.lda adr) := rfl
theorem lxi (rp : RegPair) (d16 : Word) : Statement (.lxi rp d16) := by cases rp <;> rfl
theorem shld (adr : Word) : Statement (.shld adr) := rfl
theorem lhld (adr : Word) : Statement (.lhld adr) := rfl
theorem pushRP (rp : StackPair) : Statement (.pushRP rp) := by cases rp <;> rfl
theorem pushPsw : Statement .pushPsw := rfl
theorem popRP (rp : StackPair) : Statement (.popRP rp) := by cases rp <;> rfl
theorem popPsw : Statement .popPsw := rfl
theorem sphl : Statement .sphl := rfl
theorem xchg : Statement .xchg := rfl
theorem xthl : Statement .xthl := rfl
theorem inPort (port : Byte) : Statement (.inPort port) := rfl
theorem outPort (port : Byte) : Statement (.outPort port) := rfl
theorem cmc : Statement .cmc := rfl
theorem stc : Statement .stc := rfl
theorem cma : Statement .cma := rfl
theorem inrR (r : Reg) : Statement (.inrR r) := by cases r <;> rfl
theorem inrM : Statement .inrM := rfl
theorem dcrR (r : Reg) : Statement (.dcrR r) := by cases r <;> rfl
theorem dcrM : Statement .dcrM := rfl
theorem inx (rp : RegPair) : Statement (.inx rp) := by cases rp <;> rfl
theorem dcx (rp : RegPair) : Statement (.dcx rp) := by cases rp <;> rfl
theorem daa : Statement .daa := rfl
theorem addR (src : Reg) : Statement (.addR src) := by cases src <;> rfl
theorem addM : Statement .addM := rfl
theorem adcR (src : Reg) : Statement (.adcR src) := by cases src <;> rfl
theorem adcM : Statement .adcM := rfl
theorem subR (src : Reg) : Statement (.subR src) := by cases src <;> rfl
theorem subM : Statement .subM := rfl
theorem sbbR (src : Reg) : Statement (.sbbR src) := by cases src <;> rfl
theorem sbbM : Statement .sbbM := rfl
theorem anaR (src : Reg) : Statement (.anaR src) := by cases src <;> rfl
theorem anaM : Statement .anaM := rfl
theorem xraR (src : Reg) : Statement (.xraR src) := by cases src <;> rfl
theorem xraM : Statement .xraM := rfl
theorem oraR (src : Reg) : Statement (.oraR src) := by cases src <;> rfl
theorem oraM : Statement .oraM := rfl
theorem cmpR (src : Reg) : Statement (.cmpR src) := by cases src <;> rfl
theorem cmpM : Statement .cmpM := rfl
theorem adi (d8 : Byte) : Statement (.adi d8) := rfl
theorem aci (d8 : Byte) : Statement (.aci d8) := rfl
theorem sui (d8 : Byte) : Statement (.sui d8) := rfl
theorem sbi (d8 : Byte) : Statement (.sbi d8) := rfl
theorem ani (d8 : Byte) : Statement (.ani d8) := rfl
theorem xri (d8 : Byte) : Statement (.xri d8) := rfl
theorem ori (d8 : Byte) : Statement (.ori d8) := rfl
theorem cpi (d8 : Byte) : Statement (.cpi d8) := rfl
theorem rlc : Statement .rlc := rfl
theorem rrc : Statement .rrc := rfl
theorem ral : Statement .ral := rfl
theorem rar : Statement .rar := rfl
theorem dad (rp : RegPair) : Statement (.dad rp) := by cases rp <;> rfl
theorem pchl : Statement .pchl := rfl
theorem jmp (adr : Word) : Statement (.jmp adr) := rfl
theorem jnz (adr : Word) : Statement (.jnz adr) := rfl
theorem jz (adr : Word) : Statement (.jz adr) := rfl
theorem jnc (adr : Word) : Statement (.jnc adr) := rfl
theorem jc (adr : Word) : Statement (.jc adr) := rfl
theorem jpo (adr : Word) : Statement (.jpo adr) := rfl
theorem jpe (adr : Word) : Statement (.jpe adr) := rfl
theorem jp (adr : Word) : Statement (.jp adr) := rfl
theorem jm (adr : Word) : Statement (.jm adr) := rfl
theorem call (adr : Word) : Statement (.call adr) := rfl
theorem cnz (adr : Word) : Statement (.cnz adr) := rfl
theorem cz (adr : Word) : Statement (.cz adr) := rfl
theorem cnc (adr : Word) : Statement (.cnc adr) := rfl
theorem cc (adr : Word) : Statement (.cc adr) := rfl
theorem cpo (adr : Word) : Statement (.cpo adr) := rfl
theorem cpe (adr : Word) : Statement (.cpe adr) := rfl
theorem cp (adr : Word) : Statement (.cp adr) := rfl
theorem cm (adr : Word) : Statement (.cm adr) := rfl
theorem rst (n : BitVec 3) : Statement (.rst n) := by revert n; unfold Statement; decide
theorem ret : Statement .ret := rfl
theorem rnz : Statement .rnz := rfl
theorem rz : Statement .rz := rfl
theorem rnc : Statement .rnc := rfl
theorem rc : Statement .rc := rfl
theorem rpo : Statement .rpo := rfl
theorem rpe : Statement .rpe := rfl
theorem rp : Statement .rp := rfl
theorem rm : Statement .rm := rfl
theorem ei : Statement .ei := rfl
theorem di : Statement .di := rfl
theorem hlt : Statement .hlt := rfl
theorem nop : Statement .nop := rfl
theorem rim : Statement .rim := rfl
theorem sim : Statement .sim := rfl

end Sys2Proof.Laws.EncodedLength
end

