-- ==== Sys2Proof/Machine/Assembly.lean ====
section
/-! DEFINITION. The assembler form of an instruction (spec/30_encoding.md R107): the mnemonic in capitals
and its operands, separated by a comma. Numbers stand in the spec's own C notation. -/

namespace Sys2Proof

/-- One hexadecimal digit. -/
def digit (n : Nat) : String :=
  ["0", "1", "2", "3", "4", "5", "6", "7", "8", "9", "A", "B", "C", "D", "E", "F"].getD n "?"

/-- A byte as `0x` and two digits. -/
def byteText (v : Byte) : String := "0x" ++ digit (v.toNat / 16) ++ digit (v.toNat % 16)

/-- A 16-bit value as `0x` and four digits. -/
def wordText (v : Word) : String :=
  "0x" ++ digit (v.toNat / 4096) ++ digit (v.toNat / 256 % 16) ++ digit (v.toNat / 16 % 16) ++
    digit (v.toNat % 16)

/-- The letter of a register. -/
def Reg.letter : Reg → String
  | .a => "A" | .b => "B" | .c => "C" | .d => "D" | .e => "E" | .h => "H" | .l => "L"

/-- The letter of a pair: its high register, or SP. -/
def RegPair.letter : RegPair → String
  | .bc => "B" | .de => "D" | .hl => "H" | .sp => "SP"

/-- The letter of a pair of PUSH and POP. -/
def StackPair.letter : StackPair → String
  | .bc => "B" | .de => "D" | .hl => "H"

/-- The letter of a pair of STAX and LDAX. -/
def IndexPair.letter : IndexPair → String
  | .bc => "B" | .de => "D"

/-- The assembler form. -/
def Instr.text : Instr → String
  | .movRR dst src => "MOV " ++ dst.letter ++ ", " ++ src.letter
  | .movRM dst => "MOV " ++ dst.letter ++ ", M"
  | .movMR src => "MOV " ++ "M, " ++ src.letter
  | .mviR dst v => "MVI " ++ dst.letter ++ ", " ++ byteText v
  | .mviM v => "MVI " ++ "M, " ++ byteText v
  | .stax pair => "STAX " ++ pair.letter
  | .ldax pair => "LDAX " ++ pair.letter
  | .sta adr => "STA " ++ wordText adr
  | .lda adr => "LDA " ++ wordText adr
  | .lxi pair v => "LXI " ++ pair.letter ++ ", " ++ wordText v
  | .shld adr => "SHLD " ++ wordText adr
  | .lhld adr => "LHLD " ++ wordText adr
  | .pushRP pair => "PUSH " ++ pair.letter
  | .pushPsw => "PUSH " ++ "PSW"
  | .popRP pair => "POP " ++ pair.letter
  | .popPsw => "POP " ++ "PSW"
  | .sphl => "SPHL"
  | .xchg => "XCHG"
  | .xthl => "XTHL"
  | .inPort v => "IN " ++ byteText v
  | .outPort v => "OUT " ++ byteText v
  | .cmc => "CMC"
  | .stc => "STC"
  | .cma => "CMA"
  | .inrR r => "INR " ++ r.letter
  | .inrM => "INR " ++ "M"
  | .dcrR r => "DCR " ++ r.letter
  | .dcrM => "DCR " ++ "M"
  | .inx pair => "INX " ++ pair.letter
  | .dcx pair => "DCX " ++ pair.letter
  | .daa => "DAA"
  | .addR r => "ADD " ++ r.letter
  | .addM => "ADD " ++ "M"
  | .adcR r => "ADC " ++ r.letter
  | .adcM => "ADC " ++ "M"
  | .subR r => "SUB " ++ r.letter
  | .subM => "SUB " ++ "M"
  | .sbbR r => "SBB " ++ r.letter
  | .sbbM => "SBB " ++ "M"
  | .anaR r => "ANA " ++ r.letter
  | .anaM => "ANA " ++ "M"
  | .xraR r => "XRA " ++ r.letter
  | .xraM => "XRA " ++ "M"
  | .oraR r => "ORA " ++ r.letter
  | .oraM => "ORA " ++ "M"
  | .cmpR r => "CMP " ++ r.letter
  | .cmpM => "CMP " ++ "M"
  | .adi v => "ADI " ++ byteText v
  | .aci v => "ACI " ++ byteText v
  | .sui v => "SUI " ++ byteText v
  | .sbi v => "SBI " ++ byteText v
  | .ani v => "ANI " ++ byteText v
  | .xri v => "XRI " ++ byteText v
  | .ori v => "ORI " ++ byteText v
  | .cpi v => "CPI " ++ byteText v
  | .rlc => "RLC"
  | .rrc => "RRC"
  | .ral => "RAL"
  | .rar => "RAR"
  | .dad pair => "DAD " ++ pair.letter
  | .pchl => "PCHL"
  | .jmp adr => "JMP " ++ wordText adr
  | .jnz adr => "JNZ " ++ wordText adr
  | .jz adr => "JZ " ++ wordText adr
  | .jnc adr => "JNC " ++ wordText adr
  | .jc adr => "JC " ++ wordText adr
  | .jpo adr => "JPO " ++ wordText adr
  | .jpe adr => "JPE " ++ wordText adr
  | .jp adr => "JP " ++ wordText adr
  | .jm adr => "JM " ++ wordText adr
  | .call adr => "CALL " ++ wordText adr
  | .cnz adr => "CNZ " ++ wordText adr
  | .cz adr => "CZ " ++ wordText adr
  | .cnc adr => "CNC " ++ wordText adr
  | .cc adr => "CC " ++ wordText adr
  | .cpo adr => "CPO " ++ wordText adr
  | .cpe adr => "CPE " ++ wordText adr
  | .cp adr => "CP " ++ wordText adr
  | .cm adr => "CM " ++ wordText adr
  | .rst n => "RST " ++ digit n.toNat
  | .ret => "RET"
  | .rnz => "RNZ"
  | .rz => "RZ"
  | .rnc => "RNC"
  | .rc => "RC"
  | .rpo => "RPO"
  | .rpe => "RPE"
  | .rp => "RP"
  | .rm => "RM"
  | .ei => "EI"
  | .di => "DI"
  | .hlt => "HLT"
  | .nop => "NOP"
  | .rim => "RIM"
  | .sim => "SIM"

end Sys2Proof
end

