-- ==== Sys2Proof/Tests/Slice0.lean ====
section
/-! SUPPORT. Tests: the check of WellFormed, words written out from the spec's encodings for every
constructor, single steps from the examples of the spec's rules, and the witnesses of the statements'
hypotheses. -/

namespace Sys2Proof.Tests

open Sys2Proof Sys2Proof.Machine Sys2Proof.Stated

/-! ### Helpers -/

/-- The state after reset, on a variant, with all RAM. -/
def fresh (v : Variant) : State := { State.reset with platform := { variant := v, map := [] } }

/-- Bytes loaded from an address on. -/
def place (s : State) (adr : Word) : List Byte → State
  | [] => s
  | v :: rest => place (s.load adr v) (adr + 1) rest

/-- The outcome is a next state with a property. -/
def gives (o : Host.Outcome State Fault Refusal) (p : State → Bool) : Bool :=
  match o with
  | .next t => p t
  | .fault _ => false
  | .refused _ => false

/-- The outcome is this refusal. -/
def refuses (o : Host.Outcome State Fault Refusal) (r : Refusal) : Bool :=
  match o with
  | .next _ => false
  | .fault _ => false
  | .refused q => decide (q = r)

/-- Both variants decode the bytes to the instruction. -/
def reads (op b2 b3 : Byte) (i : Instr) : Bool :=
  [Variant.i8080, Variant.i8085].all (fun v =>
    match decode v op b2 b3 with
    | .ok j => decide (j = i)
    | .error _ => false)

/-- The flags as S, Z, AC, P, CY. -/
def flags (s z ac p cy : Bool) : Flags := { s := s, z := z, ac := ac, p := p, cy := cy }

/-- A state on the 8080 with A, HL and the flags given, and one byte of memory at HL. -/
def small (a : Byte) (hl : Word) (m : Byte) (f : Flags) : State :=
  (({ fresh .i8080 with flags := f }.setReg .a a).setHL hl).load hl m

/-! ### WellFormed: the one check, refused with RIM and with SIM on the 8080 (R105) -/

theorem test_rim_is_ill_formed_on_8080 :
    Instr.rim.wellFormed .i8080 = false ∧ Instr.rim.wellFormed .i8085 = true := by decide
theorem test_sim_is_ill_formed_on_8080 :
    Instr.sim.wellFormed .i8080 = false ∧ Instr.sim.wellFormed .i8085 = true := by decide

/-! ### Decode: the bit patterns of the rules' Encoding lines -/

theorem test_words_of_one_byte_transfers :
    reads 0b01000001 0 0 (.movRR .b .c) ∧ reads 0b01111000 0 0 (.movRR .a .b) ∧
    reads 0b01010110 0 0 (.movRM .d) ∧ reads 0b01110111 0 0 (.movMR .a) ∧
    reads 0b00100110 0x42 0 (.mviR .h 0x42) ∧ reads 0b00110110 0xFF 0 (.mviM 0xFF) ∧
    reads 0b00010010 0 0 (.stax .de) ∧ reads 0b00001010 0 0 (.ldax .bc) ∧
    reads 0b00110010 0x00 0x21 (.sta 0x2100) ∧ reads 0b00111010 0x00 0x21 (.lda 0x2100) := by decide

theorem test_words_of_two_byte_transfers :
    reads 0b00000001 0x34 0x12 (.lxi .bc 0x1234) ∧ reads 0b00110001 0x00 0x24 (.lxi .sp 0x2400) ∧
    reads 0b00100010 0x0A 0x01 (.shld 0x010A) ∧ reads 0b00101010 0x0A 0x01 (.lhld 0x010A) ∧
    reads 0b11010101 0 0 (.pushRP .de) ∧ reads 0b11110101 0 0 .pushPsw ∧
    reads 0b11100001 0 0 (.popRP .hl) ∧ reads 0b11110001 0 0 .popPsw ∧ reads 0b11111001 0 0 .sphl := by
  decide

theorem test_words_of_exchange_and_ports :
    reads 0b11101011 0 0 .xchg ∧ reads 0b11100011 0 0 .xthl ∧ reads 0b11011011 0x10 0 (.inPort 0x10) ∧
    reads 0b11010011 0x01 0 (.outPort 0x01) := by decide

theorem test_words_of_one_operand :
    reads 0b00111111 0 0 .cmc ∧ reads 0b00110111 0 0 .stc ∧ reads 0b00101111 0 0 .cma ∧
    reads 0b00101100 0 0 (.inrR .l) ∧ reads 0b00110100 0 0 .inrM ∧ reads 0b00001101 0 0 (.dcrR .c) ∧
    reads 0b00110101 0 0 .dcrM ∧ reads 0b00110011 0 0 (.inx .sp) ∧ reads 0b00101011 0 0 (.dcx .hl) ∧
    reads 0b00100111 0 0 .daa := by decide

theorem test_words_of_two_operands_in_registers :
    reads 0b10000100 0 0 (.addR .h) ∧ reads 0b10000110 0 0 .addM ∧ reads 0b10001001 0 0 (.adcR .c) ∧
    reads 0b10001110 0 0 .adcM ∧ reads 0b10010111 0 0 (.subR .a) ∧ reads 0b10010110 0 0 .subM ∧
    reads 0b10011101 0 0 (.sbbR .l) ∧ reads 0b10011110 0 0 .sbbM ∧ reads 0b10100000 0 0 (.anaR .b) ∧
    reads 0b10100110 0 0 .anaM ∧ reads 0b10101111 0 0 (.xraR .a) ∧ reads 0b10101110 0 0 .xraM ∧
    reads 0b10110010 0 0 (.oraR .d) ∧ reads 0b10110110 0 0 .oraM ∧ reads 0b10111011 0 0 (.cmpR .e) ∧
    reads 0b10111110 0 0 .cmpM := by decide

theorem test_words_of_two_operands_immediate :
    reads 0b11000110 1 0 (.adi 1) ∧ reads 0b11001110 2 0 (.aci 2) ∧ reads 0b11010110 3 0 (.sui 3) ∧
    reads 0b11011110 4 0 (.sbi 4) ∧ reads 0b11100110 5 0 (.ani 5) ∧ reads 0b11101110 6 0 (.xri 6) ∧
    reads 0b11110110 7 0 (.ori 7) ∧ reads 0b11111110 8 0 (.cpi 8) := by decide

theorem test_words_of_rotations_and_dad :
    reads 0b00000111 0 0 .rlc ∧ reads 0b00001111 0 0 .rrc ∧ reads 0b00010111 0 0 .ral ∧
    reads 0b00011111 0 0 .rar ∧ reads 0b00111001 0 0 (.dad .sp) := by decide

theorem test_words_of_branches :
    reads 0b11101001 0 0 .pchl ∧ reads 0b11000011 0x00 0x3E (.jmp 0x3E00) ∧
    reads 0b11000010 0x10 0x01 (.jnz 0x0110) ∧ reads 0b11001010 0x00 0x02 (.jz 0x0200) ∧
    reads 0b11010010 0x00 0x02 (.jnc 0x0200) ∧ reads 0b11011010 0x00 0x02 (.jc 0x0200) ∧
    reads 0b11100010 0x00 0x02 (.jpo 0x0200) ∧ reads 0b11101010 0x00 0x02 (.jpe 0x0200) ∧
    reads 0b11110010 0x00 0x02 (.jp 0x0200) ∧ reads 0b11111010 0x00 0x02 (.jm 0x0200) := by decide

theorem test_words_of_calls :
    reads 0b11001101 0x00 0x3E (.call 0x3E00) ∧ reads 0b11000100 0x00 0x20 (.cnz 0x2000) ∧
    reads 0b11001100 0x00 0x20 (.cz 0x2000) ∧ reads 0b11010100 0x00 0x20 (.cnc 0x2000) ∧
    reads 0b11011100 0x00 0x20 (.cc 0x2000) ∧ reads 0b11100100 0x00 0x20 (.cpo 0x2000) ∧
    reads 0b11101100 0x00 0x20 (.cpe 0x2000) ∧ reads 0b11110100 0x00 0x20 (.cp 0x2000) ∧
    reads 0b11111100 0x00 0x20 (.cm 0x2000) ∧ reads 0b11011111 0 0 (.rst 3) := by decide

theorem test_words_of_returns :
    reads 0b11001001 0 0 .ret ∧ reads 0b11000000 0 0 .rnz ∧ reads 0b11001000 0 0 .rz ∧
    reads 0b11010000 0 0 .rnc ∧ reads 0b11011000 0 0 .rc ∧ reads 0b11100000 0 0 .rpo ∧
    reads 0b11101000 0 0 .rpe ∧ reads 0b11110000 0 0 .rp ∧ reads 0b11111000 0 0 .rm := by decide

theorem test_words_of_control :
    reads 0b11111011 0 0 .ei ∧ reads 0b11110011 0 0 .di ∧ reads 0b01110110 0 0 .hlt ∧
    reads 0b00000000 0 0 .nop ∧ decode .i8085 0b00100000 0 0 = .ok .rim ∧
    decode .i8085 0b00110000 0 0 = .ok .sim ∧
    decode .i8080 0b00100000 0 0 = .error (.unassigned 0x20) ∧
    decode .i8085 0b11011101 0 0 = .error (.unassigned 0xDD) := ⟨rfl, rfl, rfl, rfl, rfl, rfl, rfl, rfl⟩

/-- The table's numbering: the second byte is bits 15 to 8, the third bits 23 to 16. -/
theorem test_words_as_the_table_numbers_them :
    decodeTableWord 24 0x123421 = some (.lxi .hl 0x1234) ∧ decodeTableWord 8 0x21 = some (.lxi .hl 0) := by
  decide

/-- R107: its spellings. -/
theorem test_assembler_forms :
    (Instr.movRR .b .c).text = "MOV B, C" ∧ (Instr.lxi .sp 0x1234).text = "LXI SP, 0x1234" ∧
    (Instr.rst 3).text = "RST 3" ∧ Instr.pushPsw.text = "PUSH PSW" := ⟨rfl, rfl, rfl, rfl⟩

/-! ### Single steps: the examples of the spec's rules -/

/-- R111, corner case: MOV H, M overwrites half of its own address. -/
theorem test_mov_h_m : gives (exec (.movRM .h) (small 0 0x2010 0x77 (flags false false false false false)))
    (fun t => t.hl == 0x7710 && t.pc == 1) := by decide
/-- R121: L at the address, H at the next. -/
theorem test_shld : gives (exec (.shld 0xFFFF) (small 0 0xAE29 0 (flags false false false false false)))
    (fun t => t.content 0xFFFF == 0x29 && t.content 0 == 0xAE && t.pc == 3) := by decide
/-- R125: with all five flags 1 the byte F is 0xD7 on the 8080. -/
theorem test_push_psw : gives
    (exec .pushPsw ((small 0x1F 0 0 (flags true true true true true)).setSP 0x502A))
    (fun t => t.content 0x5029 == 0x1F && t.content 0x5028 == 0xD7 && t.sp == 0x5028) := by decide
/-- R131: its example. -/
theorem test_xthl : gives
    (exec .xthl (place ((small 0 0x0B3C 0 (flags false false false false false)).setSP 0x10AD) 0x10AD
      [0xF0, 0x0D]))
    (fun t => t.hl == 0x0DF0 && t.content 0x10AD == 0x3C && t.content 0x10AE == 0x0B && t.sp == 0x10AD) := by
  decide
/-- R135: the environment's answer 0x3C at port 0x10 is read and recorded. -/
theorem test_in : gives
    (exec (.inPort 0x10) { fresh .i8080 with inputs := { Inputs.quiet with portData := some 0x3C } })
    (fun t => t.regs.a == 0x3C && t.pc == 2 && decide (t.io = [.read 0x10 0x3C])) := by decide
/-- R136: its example. -/
theorem test_out : gives (exec (.outPort 1) (small 0x55 0 0 (flags false false false false false)))
    (fun t => decide (t.io = [.write 1 0x55]) && t.regs.a == 0x55) := by decide
/-- R143: B = 0x0F with CY = 1. -/
theorem test_inr : gives
    (exec (.inrR .b) ((small 0 0 0 (flags true true false true true)).setReg .b 0x0F))
    (fun t => t.regs.b == 0x10 && decide (t.flags = flags false false true false true)) := by decide
/-- R145: 0x00 - 1 = 0xFF. -/
theorem test_dcr : gives (exec (.dcrR .a) (small 0 0 0 (flags false true true false false)))
    (fun t => t.regs.a == 0xFF && decide (t.flags = flags true false false true false)) := by decide
/-- R149: A = 0x9B gives 0x01. -/
theorem test_daa : gives (exec .daa (small 0x9B 0 0 (flags false false false false false)))
    (fun t => t.regs.a == 0x01 && decide (t.flags = flags false false true false true)) := by decide
/-- R149, corner case: A = 0x12 with CY = 1 gives 0x72. -/
theorem test_daa_keeps_carry : gives (exec .daa (small 0x12 0 0 (flags false false false false true)))
    (fun t => t.regs.a == 0x72 && t.flags.cy) := by decide
/-- R155, R156: 0x6C + 0x2E = 0x9A, worked by hand from R11. -/
theorem test_add : gives (exec .addM (small 0x6C 0x2000 0x2E (flags false true false false true)))
    (fun t => t.regs.a == 0x9A && decide (t.flags = flags true false true true false)) := by decide
/-- R164: 0x04 - (0x02 + 1) = 0x01, worked by hand from R11. -/
theorem test_sbb : gives
    (exec (.sbbR .l) ((small 0x04 0 0 (flags false false false false true)).setReg .l 0x02))
    (fun t => t.regs.a == 0x01 && decide (t.flags = flags false false true false false)) := by decide
/-- R172: AC of 0x0F AND 0x00 is bit 3 of the OR on the 8080, and 1 on the 8085. -/
theorem test_ana_ac :
    gives (exec (.ani 0x00) (small 0x0F 0 0 (flags false false false false true)))
      (fun t => decide (t.flags = flags false true true true false)) ∧
    gives (exec (.ani 0x00) (small 0x07 0 0 (flags false false true false true)))
      (fun t => decide (t.flags = flags false true false true false)) ∧
    gives (exec (.ani 0x00) ((fresh .i8085).setReg .a 0x07)) (fun t => t.flags.ac) := by decide
/-- R177: A = 0x02, E = 0x05. -/
theorem test_cmp : gives
    (exec (.cmpR .e) ((small 0x02 0 0 (flags false true true true false)).setReg .e 0x05))
    (fun t => t.regs.a == 0x02 && decide (t.flags = flags true false false false true)) := by decide
/-- R179: A = 0x4A, compared with 0x4B. -/
theorem test_cpi : gives (exec (.cpi 0x4B) (small 0x4A 0 0 (flags false false false false false)))
    (fun t => decide (t.flags = flags true false false true true) && t.pc == 2) := by decide
/-- R190 to R193: their examples. -/
theorem test_rotations :
    gives (exec .rlc (small 0xF2 0 0 (flags false false false false false)))
      (fun t => t.regs.a == 0xE5 && t.flags.cy) ∧
    gives (exec .rrc (small 0xF2 0 0 (flags false false false false true)))
      (fun t => t.regs.a == 0x79 && !t.flags.cy) ∧
    gives (exec .ral (small 0xB5 0 0 (flags false false false false false)))
      (fun t => t.regs.a == 0x6A && t.flags.cy) ∧
    gives (exec .rar (small 0x6A 0 0 (flags false false false false true)))
      (fun t => t.regs.a == 0xB5 && !t.flags.cy) := by decide
/-- R194: its example. -/
theorem test_dad : gives
    (exec (.dad .bc) ((small 0 0xA17B 0 (flags false true false false true)).setBC 0x339F))
    (fun t => t.hl == 0xD51A && decide (t.flags = flags false true false false false)) := by decide
/-- R203: the example of JNZ, with Z = 0 and with Z = 1. -/
theorem test_jnz :
    gives (exec (.jnz 0x0110) { fresh .i8080 with pc := 0x0100 }) (fun t => t.pc == 0x0110) ∧
    gives (exec (.jnz 0x0110)
      { fresh .i8080 with pc := 0x0100, flags := flags false true false false false })
      (fun t => t.pc == 0x0103) := by decide
/-- R216, corner case: SP = 0x0001. -/
theorem test_call : gives (exec (.call 0x3E00) { fresh .i8080 with pc := 0x0100, sp := 0x0001 })
    (fun t => t.content 0x0000 == 0x01 && t.content 0xFFFF == 0x03 && t.sp == 0xFFFF && t.pc == 0x3E00) := by
  decide
/-- R233, R61: the low byte from SP, at the top of the address space. -/
theorem test_ret : gives (exec .ret (place { fresh .i8080 with sp := 0xFFFF } 0xFFFF [0x34, 0x12]))
    (fun t => t.pc == 0x1234 && t.sp == 0x0001) := by decide
/-- R250: its example. -/
theorem test_rim : gives
    (exec .rim { fresh .i8085 with
      inte := true, irq := { m55 := true, m65 := false, m75 := true, i75 := true, sod := false, trapInte := none },
      inputs := { Inputs.quiet with sid := true, rst55 := true } })
    (fun t => t.regs.a == 0xDD) := by decide
/-- R251: A = 0x0D with masks 0, 0, 0. -/
theorem test_sim : gives
    (exec .sim ({ fresh .i8085 with
      irq := { m55 := false, m65 := false, m75 := false, i75 := true, sod := false, trapInte := none } }.setReg
        .a 0x0D))
    (fun t => decide (t.irq =
      { m55 := true, m65 := false, m75 := true, i75 := true, sod := false, trapInte := none })) := by decide

/-- R266: RST 3 accepted at pc = 0x0123 while halted, A and the flags as they were. -/
theorem test_interrupt_entry : gives
    (step { small 0x5A 0 0 (flags true false true false true) with
      pc := 0x0123, sp := 0x2400, inte := true, halted := true,
      script := [{ Inputs.quiet with intr := .rst 3 }] })
    (fun t => t.pc == 0x0018 && t.content 0x23FF == 0x01 && t.content 0x23FE == 0x23 && t.sp == 0x23FE &&
      !t.inte && !t.halted && t.regs.a == 0x5A && decide (t.flags = flags true false true false true)) := by
  decide
/-- R267: the boundary right after EI accepts nothing. -/
theorem test_ei_delay : gives
    (step { place (fresh .i8080) 0 [0x00] with
      inte := true, eiDelay := true, script := [{ Inputs.quiet with intr := .rst 7 }] })
    (fun t => t.pc == 1 && t.inte && !t.eiDelay) := by decide

/-! ### Witnesses: states and operands that meet the hypotheses of the statements -/

/-- ROM below 0x1000, nothing from 0xF000 on, RAM between. -/
def mapped (v : Variant) : State :=
  { State.reset with
    platform :=
      { variant := v, map := [{ base := 0, size := 0x1000, kind := .rom },
                              { base := 0xF000, size := 0x1000, kind := .absent }] } }

/-- An 8085 with interrupts open, no masks, and these inputs at the next boundary. -/
def waiting (i : Inputs) : State :=
  { fresh .i8085 with
    inte := true, script := [i], sp := 0x2400,
    irq := { m55 := false, m65 := false, m75 := false, i75 := false, sod := false, trapInte := none } }

/-- An 8080 with interrupts open and these inputs at the next boundary. -/
def waiting80 (i : Inputs) : State := { fresh .i8080 with inte := true, script := [i], sp := 0x2400 }

theorem test_witness_DecodeUndoesEncode :
    Instr.sim.wellFormed .i8085 = true ∧ (Instr.rst 7).wellFormed .i8080 = true := by decide
theorem test_witness_EncodeUndoesDecode :
    decode .i8080 0xC3 0x00 0x3E = .ok (.jmp 0x3E00) ∧ decode .i8080 0xFE 0x4B 0 = .ok (.cpi 0x4B) ∧
    decode .i8085 0x20 0 0 = .ok .rim := ⟨rfl, rfl, rfl⟩
theorem test_witness_UnassignedBytesAreRejected :
    0xFD ∈ unassigned .i8085 ∧ 0x08 ∈ unassigned .i8080 ∧ 0x20 ∈ unassigned .i8080 ∧
    0x20 ∉ unassigned .i8085 ∧ 0x00 ∉ unassigned .i8080 ∧ 0xFF ∉ unassigned .i8080 := by decide
theorem test_witness_PairsAreTheirRegisters : RegPair.sp ≠ RegPair.hl := by decide
theorem test_witness_ReadingAByte :
    (mapped .i8080).kindAt 0x0FFF ≠ .absent ∧ (mapped .i8080).kindAt 0x1000 ≠ .absent ∧
    (mapped .i8080).kindAt 0xF000 = .absent ∧ (mapped .i8080).kindAt 0xFFFF = .absent := by decide
theorem test_witness_WritingAByte :
    (mapped .i8080).kindAt 0x1000 = .ram ∧ (mapped .i8080).kindAt 0xEFFF = .ram ∧
    (mapped .i8080).kindAt 0x0FFF ≠ .ram ∧ (mapped .i8080).kindAt 0xF000 ≠ .ram := by decide
theorem test_witness_TwoByteAccesses :
    (fresh .i8080).kindAt 0xFFFF = .ram ∧ (fresh .i8080).kindAt (0xFFFF + 1) = .ram := by decide
theorem test_witness_PopUndoesPush :
    let s := (fresh .i8080).setSP 0x0001
    s.kindAt (s.sp - 1) = .ram ∧ s.kindAt (s.sp - 2) = .ram := by decide
theorem test_witness_TheNextFetchSeesTheStore :
    let s := { fresh .i8080 with pc := 0xFFFD }
    s.kindAt (s.pc + 3) = .ram := by decide
/-- LXI H, 0x1234 across the top of the address space. -/
theorem test_witness_StepRunsTheDecodedInstruction :
    let s := place { fresh .i8080 with pc := 0xFFFE } 0xFFFE [0x21, 0x34, 0x12]
    s.sampleInputs.boundaryEvent = none ∧ s.halted = false ∧
    decode s.platform.variant s.sampleInputs.fetch.1.op s.sampleInputs.fetch.1.b2
      s.sampleInputs.fetch.1.b3 = .ok (.lxi .hl 0x1234) := ⟨by decide, rfl, rfl⟩
theorem test_witness_AStoredInstructionRuns :
    let s := place { fresh .i8080 with pc := 0xFFFE } 0xFFFE [0x21, 0x34, 0x12]
    (Instr.lxi .hl 0x1234).wellFormed s.platform.variant = true ∧
    (∀ k : Nat, k < (encode (.lxi .hl 0x1234)).length →
      s.kindAt (s.pc + BitVec.ofNat 16 k) ≠ .absent ∧
      s.content (s.pc + BitVec.ofNat 16 k) = (encode (.lxi .hl 0x1234)).getD k 0) ∧
    s.sampleInputs.boundaryEvent = none ∧ s.halted = false := by decide

/-- No event; TRAP with INTE = 0; INTR with INTE = 1. -/
theorem test_witness_TheHaltedState :
    (let s := { fresh .i8085 with halted := true }
     s.halted = true ∧ s.inte = false ∧ s.sampleInputs.boundaryEvent = none ∧
     gives (step s) (fun t => t.halted)) ∧
    (let s := { waiting { Inputs.quiet with trap := true } with halted := true, inte := false }
     s.halted = true ∧ s.inte = false ∧ s.sampleInputs.boundaryEvent = some .trap ∧
     gives (step s) (fun t => !t.halted)) ∧
    (let s := { waiting80 { Inputs.quiet with intr := .rst 7 } with halted := true }
     s.halted = true ∧ s.sampleInputs.boundaryEvent = some (.intr 7) ∧
     gives (step s) (fun t => !t.halted)) := by decide
theorem test_witness_TrapIsAlwaysTaken :
    let i := { Inputs.quiet with trap := true }
    let s := { waiting i with inte := false }
    s.platform.variant = .i8085 ∧ s.script = [i] ∧ i.reset = false ∧ i.trap = true := by decide
/-- By an edge at this boundary, and by a latch of before. -/
theorem test_witness_Rst75IsTaken :
    (let i := { Inputs.quiet with rst75Edge := true }
     let s := waiting i
     s.script = [i] ∧ i.reset = false ∧ s.platform.variant = .i8085 ∧ i.trap = false ∧
     (s.inte = true ∧ s.eiDelay = false) ∧ (s.irq.i75 || i.rst75Edge) = true ∧ s.irq.m75 = false ∧
     s.sampleInputs.boundaryEvent = some .rst75) ∧
    (let i := Inputs.quiet
     let s := waiting i
     let u := { s with irq := { s.irq with i75 := true } }
     u.script = [i] ∧ i.reset = false ∧ u.platform.variant = .i8085 ∧ i.trap = false ∧
     (u.inte = true ∧ u.eiDelay = false) ∧ (u.irq.i75 || i.rst75Edge) = true ∧ u.irq.m75 = false ∧
     u.sampleInputs.boundaryEvent = some .rst75) := by decide
/-- RST 6.5 above RST 5.5, and RST 5.5 with RST 6.5 masked. -/
theorem test_witness_Rst65AndRst55AreTaken :
    let i := { Inputs.quiet with rst65 := true, rst55 := true }
    let s := waiting i
    let u := { s with irq := { s.irq with m65 := true } }
    (s.script = [i] ∧ i.reset = false ∧ s.platform.variant = .i8085 ∧ i.trap = false ∧
     (s.inte = true ∧ s.eiDelay = false) ∧ ((s.irq.i75 || i.rst75Edge) && !s.irq.m75) = false ∧
     (i.rst65 && !s.irq.m65) = true ∧ s.sampleInputs.boundaryEvent = some .rst65) ∧
    (u.script = [i] ∧ u.platform.variant = .i8085 ∧ (u.inte = true ∧ u.eiDelay = false) ∧
     ((u.irq.i75 || i.rst75Edge) && !u.irq.m75) = false ∧ (i.rst65 && !u.irq.m65) = false ∧
     (i.rst55 && !u.irq.m55) = true ∧ u.sampleInputs.boundaryEvent = some .rst55) := by decide
/-- The 8080; the 8085; INTE = 0; EI_DELAY = 1. -/
theorem test_witness_TheMaskableInterrupt :
    let i := { Inputs.quiet with intr := .rst 7 }
    let s := waiting80 i
    let u := waiting i
    (s.script = [i] ∧ i.reset = false ∧ i.intr = .rst 7 ∧ s.platform.variant = .i8080 ∧
     s.inte = true ∧ s.eiDelay = false) ∧
    (u.script = [i] ∧ u.platform.variant = .i8085 ∧ (u.inte = true ∧ u.eiDelay = false) ∧
     i.trap = false ∧ ((u.irq.i75 || i.rst75Edge) && !u.irq.m75) = false ∧
     (i.rst65 && !u.irq.m65) = false ∧ (i.rst55 && !u.irq.m55) = false) ∧
    ({ u with inte := false }.script = [i] ∧ { u with inte := false }.inte = false ∧ i.trap = false) ∧
    ({ s with eiDelay := true }.script = [i] ∧ { s with eiDelay := true }.eiDelay = true) := by decide
/-- A byte without an instruction; an injected instruction that is accepted. -/
theorem test_witness_RefusedExactlyWhen :
    refuses (step (place (fresh .i8080) 0 [0x20])) (.unassignedOpcode 0x20) ∧
    refuses (step (waiting80 { Inputs.quiet with intr := .other 0xCD })) (.injectedInstruction 0xCD) := by
  decide
theorem test_witness_EiDelayBookkeeping :
    gives (exec .ei (fresh .i8080)) (fun t => t.eiDelay) ∧
    gives (exec .di { fresh .i8080 with inte := true, eiDelay := true }) (fun t => !t.eiDelay) ∧
    gives (takeEvent .trap { fresh .i8085 with inte := true, eiDelay := true }) (fun t => !t.eiDelay) ∧
    (let s := { fresh .i8085 with
                inte := true, eiDelay := true, inputs := { Inputs.quiet with trap := true } }
     s.eiDelay = true ∧ s.platform.variant = .i8085 ∧ s.inputs.reset = false ∧ s.inputs.trap = true) := by
  decide
theorem test_witness_OnlyEiEnablesInterrupts :
    let s := place (fresh .i8080) 0 [0xFB]
    s.inte = false ∧ gives (step s) (fun t => t.inte) := by decide
theorem test_witness_ResetDuringARun :
    let i := { Inputs.quiet with reset := true, trap := true }
    let s := { mapped .i8085 with script := [i] }
    s.script = [i] ∧ i.reset = true ∧ s.kindAt 0x0FFF = .rom := by decide
theorem test_witness_StepKeepsGoodForm :
    let s := place { fresh .i8085 with inte := true, eiDelay := true } 0 [0x76]
    s.wf = true ∧ gives (step s) (fun t => t.halted && !t.eiDelay) := by decide
theorem test_witness_StepKeepsPlatformAndTrace :
    gives (step (place (fresh .i8080) 0 [0xD3, 0x01])) (fun t => decide (t.io = [.write 0x01 0x00])) := by
  decide
/-- STA 0x0FFF, run from ROM, at the last address of the ROM. -/
theorem test_witness_RomNeverChanges :
    let s := place (mapped .i8080) 0 [0x32, 0xFF, 0x0F]
    s.kindAt 0x0FFF = .rom ∧ gives (step s) (fun t => t.pc == 3) := by decide
theorem test_witness_PushOfAPair_PopOfAPair :
    StackPair.bc = .bc ∧ StackPair.de = .de ∧ StackPair.hl = .hl := ⟨rfl, rfl, rfl⟩
theorem test_witness_PushOfPSW_LogicalAnd_and_the_8085s_own :
    (fresh .i8080).platform.variant = .i8080 ∧ (fresh .i8085).platform.variant = .i8085 ∧
    (fresh .i8085).irq.trapInte = none ∧
    (let s := { fresh .i8085 with irq := { irqAtReset with trapInte := some true } }
     s.platform.variant = .i8085 ∧ s.irq.trapInte = some true) := by decide
theorem test_witness_PortsInAndOut :
    (fresh .i8080).inputs.portData = none ∧
    { fresh .i8080 with inputs := { Inputs.quiet with portData := some 0x3C } }.inputs.portData =
      some 0x3C := by decide
/-- 99 + 99 and 0 + 0. -/
theorem test_witness_DecimalAddition :
    let s := (small 0x99 0 0 (flags false false false false true)).setReg .b 0x99
    (IsDecimal s.regs.a ∧ IsDecimal (s.reg .b)) ∧
    (IsDecimal (fresh .i8080).regs.a ∧ IsDecimal ((fresh .i8080).reg .b)) := by
  refine ⟨⟨⟨?_, ?_⟩, ⟨?_, ?_⟩⟩, ⟨⟨?_, ?_⟩, ⟨?_, ?_⟩⟩⟩ <;> decide
/-- Each condition holds in one of these two states and fails in the other. -/
theorem test_witness_ConditionalCalls_and_ReturnsFromSubroutines :
    let s := { fresh .i8080 with flags := flags true true false true true }
    (s.flags.z = true ∧ s.flags.cy = true ∧ s.flags.p = true ∧ s.flags.s = true) ∧
    (let u := fresh .i8080
     u.flags.z = false ∧ u.flags.cy = false ∧ u.flags.p = false ∧ u.flags.s = false) := by decide

end Sys2Proof.Tests
end

/-! ## Proofs about the state, the fetch and one step (spec/10_state.md)

The layers: what an instruction leaves of the control state (`KeepsControl`, `Completes`,
`exec_cases`), what an event does to it, and the good form under each part of a step; the encoder read
back by the fetch and the decoder; then the obligations. -/

section

namespace Sys2Proof.Machine

variable {s t : State}

/-! ### What an instruction leaves of the control state -/

/-- From `s` to `t` the interrupt and halt state, the 8085's own state and the platform are as they were,
and memory keeps its canonical form. Every operation that an instruction is made of does this; only
`jumpTo`, which ends an instruction, writes EI_DELAY. -/
structure KeepsControl (s t : State) : Prop where
  inte : t.inte = s.inte
  halted : t.halted = s.halted
  irq : t.irq = s.irq
  platform : t.platform = s.platform
  mem_wf : s.mem.wf = true → t.mem.wf = true

namespace KeepsControl

theorem refl : KeepsControl s s := ⟨rfl, rfl, rfl, rfl, id⟩

/-- One more operation, whose fields the `simp` lemmas of the state know. -/
theorem andThen {u : State} (h : KeepsControl s t) (inte : u.inte = t.inte := by simp)
    (halted : u.halted = t.halted := by simp) (irq : u.irq = t.irq := by simp)
    (platform : u.platform = t.platform := by simp)
    (mem_wf : t.mem.wf = true → u.mem.wf = true := by simp) : KeepsControl s u :=
  ⟨inte.trans h.inte, halted.trans h.halted, irq.trans h.irq, platform.trans h.platform,
    fun hs => mem_wf (h.mem_wf hs)⟩

variable (h : KeepsControl s t)
include h

theorem setReg {r : Reg} {v : Byte} : KeepsControl s (t.setReg r v) := h.andThen
theorem setBC {v : Word} : KeepsControl s (t.setBC v) := h.andThen
theorem setDE {v : Word} : KeepsControl s (t.setDE v) := h.andThen
theorem setHL {v : Word} : KeepsControl s (t.setHL v) := h.andThen
theorem setSP {v : Word} : KeepsControl s (t.setSP v) := h.andThen
theorem setFlags {f : Flags} : KeepsControl s (t.setFlags f) := h.andThen
theorem setCarry {c : Bool} : KeepsControl s (t.setCarry c) := h.andThen

theorem setPair {rp : RegPair} {v : Word} : KeepsControl s (t.setPair rp v) := by
  cases rp
  exacts [h.setBC, h.setDE, h.setHL, h.setSP]

theorem setStackPair {rp : StackPair} {v : Word} : KeepsControl s (t.setStackPair rp v) := by
  cases rp
  exacts [h.setBC, h.setDE, h.setHL]

theorem accumulate {r : AluResult} : KeepsControl s (t.accumulate r) := h.setReg.setFlags
theorem compareFlags {r : AluResult} : KeepsControl s (t.compareFlags r) := h.setFlags

theorem memRead {adr : Word} : KeepsControl s (t.memRead adr).2 := h.andThen
theorem readM : KeepsControl s t.readM.2 := h.memRead
theorem memRead16 {adr : Word} : KeepsControl s (t.memRead16 adr).2 := h.andThen
theorem pop16 : KeepsControl s t.pop16.2 := h.andThen
theorem pswFill : KeepsControl s t.pswFill.2 := h.andThen
theorem ioRead {port : Byte} : KeepsControl s (t.ioRead port).2 := h.andThen
theorem ioWrite {port v : Byte} : KeepsControl s (t.ioWrite port v) := h.andThen

theorem memWrite {adr : Word} {v : Byte} : KeepsControl s (t.memWrite adr v) :=
  h.andThen (mem_wf := t.memWrite_wf adr v)
theorem writeM {v : Byte} : KeepsControl s (t.writeM v) := h.memWrite
theorem memWrite16 {adr v : Word} : KeepsControl s (t.memWrite16 adr v) :=
  h.andThen (mem_wf := t.memWrite16_wf adr v)
theorem push16 {v : Word} : KeepsControl s (t.push16 v) := h.andThen (mem_wf := t.push16_wf v)

end KeepsControl

/-- What the end of an ordinary instruction shows: the control state is kept and EI_DELAY is cleared
(spec/60_exceptions.md R267). -/
structure Completes (s t : State) : Prop where
  keeps : KeepsControl s t
  eiDelay : t.eiDelay = false

namespace Completes

theorem jumpTo {w : Word} (h : KeepsControl s t) : Completes s (t.jumpTo w) := ⟨h.andThen, rfl⟩
theorem advance {len : Word} (h : KeepsControl s t) : Completes s (t.advance len) := jumpTo h

theorem callTo {ret target : Word} : Completes s (s.callTo ret target) := jumpTo (.push16 .refl)
theorem returnFromStack : Completes s s.returnFromStack := jumpTo (.pop16 .refl)

theorem jumpIf {cond : Cond} {adr : Word} : Completes s (s.jumpIf cond adr) := by
  unfold State.jumpIf
  split
  · exact jumpTo .refl
  · exact advance .refl

theorem callIf {cond : Cond} {adr : Word} : Completes s (s.callIf cond adr) := by
  unfold State.callIf
  split
  · exact callTo
  · exact advance .refl

theorem returnIf {cond : Cond} : Completes s (s.returnIf cond) := by
  unfold State.returnIf
  split
  · exact returnFromStack
  · exact advance .refl

/-- An instruction whose meaning is the next state `u` completes if `u` shows it. -/
theorem of_next {u : State} {φ ρ : Type} (h : Host.Outcome.next (φ := φ) (ρ := ρ) u = .next t)
    (hu : Completes s u) : Completes s t := by
  cases h
  exact hu

end Completes

theorem execRim_cases (h : exec .rim s = .next t) :
    s.platform.variant = .i8085 ∧
      t = ({ s with irq := { s.irq with trapInte := none } }.setReg .a s.rimImage).advance 1 := by
  change execRim s = .next t at h
  unfold execRim at h
  split at h
  · cases h
  · next hv => cases h; exact ⟨hv, rfl⟩

theorem execSim_cases (h : exec .sim s = .next t) :
    s.platform.variant = .i8085 ∧ t = { s with irq := simEffect s.regs.a s.irq }.advance 1 := by
  change execSim s = .next t at h
  unfold execSim at h
  split at h
  · cases h
  · next hv => cases h; exact ⟨hv, rfl⟩

/-- What an instruction does to the control state: EI, DI, HLT, RIM and SIM write it, each in its own
way (spec/49_control.md); every other instruction only completes. -/
theorem exec_cases {i : Instr} (h : exec i s = .next t) :
    Completes s t ∨
    (i = .ei ∧ t = { s.advance 1 with inte := true, eiDelay := true }) ∨
    (i = .di ∧ t = { s.advance 1 with inte := false }) ∨
    (i = .hlt ∧ t = { s.advance 1 with halted := true }) ∨
    (i = .rim ∧ s.platform.variant = .i8085 ∧
      t = ({ s with irq := { s.irq with trapInte := none } }.setReg .a s.rimImage).advance 1) ∨
    (i = .sim ∧ s.platform.variant = .i8085 ∧
      t = { s with irq := simEffect s.regs.a s.irq }.advance 1) := by
  cases i with
  | ei => cases h; exact .inr (.inl ⟨rfl, rfl⟩)
  | di => cases h; exact .inr (.inr (.inl ⟨rfl, rfl⟩))
  | hlt => cases h; exact .inr (.inr (.inr (.inl ⟨rfl, rfl⟩)))
  | rim => exact .inr (.inr (.inr (.inr (.inl ⟨rfl, execRim_cases h⟩))))
  | sim => exact .inr (.inr (.inr (.inr (.inr ⟨rfl, execSim_cases h⟩))))
  | nop => exact .inl (.of_next h (.advance .refl))
  -- one byte and two bytes transfers
  | movRR _ _ | mviR _ _ | cma => exact .inl (.of_next h (.advance (.setReg .refl)))
  | movRM _ => exact .inl (.of_next h (.advance (.setReg (.readM .refl))))
  | movMR _ | mviM _ => exact .inl (.of_next h (.advance (.writeM .refl)))
  | stax _ | sta _ => exact .inl (.of_next h (.advance (.memWrite .refl)))
  | ldax _ | lda _ => exact .inl (.of_next h (.advance (.setReg (.memRead .refl))))
  | lxi _ _ | inx _ | dcx _ => exact .inl (.of_next h (.advance (.setPair .refl)))
  | shld _ => exact .inl (.of_next h (.advance (.memWrite16 .refl)))
  | lhld _ => exact .inl (.of_next h (.advance (.setHL (.memRead16 .refl))))
  | pushRP _ => exact .inl (.of_next h (.advance (.push16 .refl)))
  | pushPsw => exact .inl (.of_next h (.advance (.push16 (.pswFill .refl))))
  | popRP _ => exact .inl (.of_next h (.advance (.setStackPair (.pop16 .refl))))
  | popPsw => exact .inl (.of_next h (.advance (.setFlags (.setReg (.pop16 .refl)))))
  | sphl => exact .inl (.of_next h (.advance (.setSP .refl)))
  -- exchanges and ports
  | xchg => exact .inl (.of_next h (.advance (.setDE (.setHL .refl))))
  | xthl =>
    exact .inl (.of_next h (.advance (.setHL (.memWrite (.memWrite (.memRead16 .refl))))))
  | inPort _ => exact .inl (.of_next h (.advance (.setReg (.ioRead .refl))))
  | outPort _ => exact .inl (.of_next h (.advance (.ioWrite .refl)))
  -- arithmetic, logic and rotations
  | cmc | stc => exact .inl (.of_next h (.advance (.setCarry .refl)))
  | inrR _ | dcrR _ => exact .inl (.of_next h (.advance (.setFlags (.setReg .refl))))
  | inrM | dcrM => exact .inl (.of_next h (.advance (.setFlags (.writeM (.readM .refl)))))
  | daa | addR _ | adcR _ | subR _ | sbbR _ | anaR _ | xraR _ | oraR _
  | adi _ | aci _ | sui _ | sbi _ | ani _ | xri _ | ori _ =>
    exact .inl (.of_next h (.advance (.accumulate .refl)))
  | addM | adcM | subM | sbbM | anaM | xraM | oraM =>
    exact .inl (.of_next h (.advance (.accumulate (.readM .refl))))
  | cmpR _ | cpi _ => exact .inl (.of_next h (.advance (.compareFlags .refl)))
  | cmpM => exact .inl (.of_next h (.advance (.compareFlags (.readM .refl))))
  | rlc | rrc | ral | rar => exact .inl (.of_next h (.advance (.setCarry (.setReg .refl))))
  | dad _ => exact .inl (.of_next h (.advance (.setCarry (.setHL .refl))))
  -- branches, calls and returns
  | pchl | jmp _ => exact .inl (.of_next h (.jumpTo .refl))
  | jnz _ | jz _ | jnc _ | jc _ | jpo _ | jpe _ | jp _ | jm _ => exact .inl (.of_next h .jumpIf)
  | call _ | rst _ => exact .inl (.of_next h .callTo)
  | cnz _ | cz _ | cnc _ | cc _ | cpo _ | cpe _ | cp _ | cm _ => exact .inl (.of_next h .callIf)
  | ret => exact .inl (.of_next h .returnFromStack)
  | rnz | rz | rnc | rc | rpo | rpe | rp | rm => exact .inl (.of_next h .returnIf)

/-- EI alone sets INTE (spec/10_state.md R36). -/
theorem eq_ei_of_exec_sets_inte {i : Instr} (h : exec i s = .next t) (hs : s.inte = false)
    (ht : t.inte = true) : i = .ei := by
  rcases exec_cases h with hc | ⟨rfl, -⟩ | ⟨-, rfl⟩ | ⟨-, rfl⟩ | ⟨-, -, rfl⟩ | ⟨-, -, rfl⟩
  · simp [hc.keeps.inte, hs] at ht
  · rfl
  all_goals simp [hs] at ht

/-! ### What an event does to the control state -/

/-- Every event disables interrupts (spec/60_exceptions.md R266, spec/70_reset_and_hazards.md R301). -/
theorem takeEvent_inte {e : BoundaryEvent} (h : takeEvent e s = .next t) : t.inte = false := by
  rcases takeEvent_cases h with
    ⟨-, rfl⟩ | ⟨-, rfl⟩ | ⟨-, rfl⟩ | ⟨-, rfl⟩ | ⟨-, rfl⟩ | ⟨_, -, rfl⟩
  · rfl
  all_goals exact State.enterInterrupt_inte _ _

theorem intrEvent_ne {e : BoundaryEvent} (h : s.intrEvent = some e) : e ≠ .trap ∧ e ≠ .rst75 := by
  unfold State.intrEvent at h
  split at h
  · split at h <;> cases h <;> simp
  · cases h

/-- TRAP and RST 7.5, the two events that write the 8085's own state, are events of the 8085
(spec/60_exceptions.md R286). -/
theorem variant_of_trap_or_rst75 {e : BoundaryEvent} (h : s.boundaryEvent = some e)
    (he : e = .trap ∨ e = .rst75) : s.platform.variant = .i8085 := by
  unfold State.boundaryEvent at h
  split at h
  · cases h; simp at he
  · split at h
    · obtain ⟨htrap, h75⟩ := intrEvent_ne h
      exact absurd he (by simp [htrap, h75])
    · assumption

/-! ### The good form under each part of a step -/

theorem State.wf_iff :
    s.wf = true ↔ s.mem.wf = true ∧ (s.eiDelay = true → s.inte = true ∧ s.halted = false) ∧
      (s.platform.variant = .i8080 → s.irq = irqAtReset) := by
  unfold State.wf State.delayLegal State.irqLegal
  cases s.platform.variant <;> cases s.eiDelay <;> simp [and_assoc]

theorem State.sampleInputs_wf (h : s.wf = true) : s.sampleInputs.wf = true := by
  obtain ⟨hmem, hdelay, hirq⟩ := State.wf_iff.mp h
  refine State.wf_iff.mpr ⟨by simpa using hmem, by simpa using hdelay, fun hv => ?_⟩
  have hv' : s.platform.variant = .i8080 := by simpa using hv
  rw [State.sampleInputs_irq, hv']
  exact hirq hv'

theorem State.fetch_wf (h : s.wf = true) : s.fetch.2.wf = true := by
  rw [State.fetch_state]
  exact h

theorem State.enterInterrupt_good (target : Word) (hmem : s.mem.wf = true)
    (hirq : s.platform.variant = .i8080 → s.irq = irqAtReset) :
    (s.enterInterrupt target).wf = true :=
  State.wf_iff.mpr ⟨State.enterInterrupt_wf s target hmem, by simp, by simpa using hirq⟩

/-- Reset sets the 8085's state to its reset values; TRAP and RST 7.5 write it on the 8085 alone; no
other event touches it. -/
theorem takeEvent_wf {e : BoundaryEvent} (hs : s.wf = true) (he : s.boundaryEvent = some e)
    (h : takeEvent e s = .next t) : t.wf = true := by
  obtain ⟨hmem, -, hirq⟩ := State.wf_iff.mp hs
  rcases takeEvent_cases h with
    ⟨-, rfl⟩ | ⟨htrap, rfl⟩ | ⟨h75, rfl⟩ | ⟨-, rfl⟩ | ⟨-, rfl⟩ | ⟨_, -, rfl⟩
  · exact State.wf_iff.mpr ⟨State.applyReset_wf s hmem, by simp [State.applyReset], fun _ => rfl⟩
  · have hv := variant_of_trap_or_rst75 he (.inl htrap)
    exact State.enterInterrupt_good _ hmem (by simp [hv])
  · have hv := variant_of_trap_or_rst75 he (.inr h75)
    exact State.enterInterrupt_good _ hmem (by simp [hv])
  all_goals exact State.enterInterrupt_good _ hmem hirq

/-- EI is the one instruction that sets EI_DELAY, and the machine runs when it executes; RIM and SIM
write the 8085's state on the 8085 alone. -/
theorem exec_wf {i : Instr} (hs : s.wf = true) (hrun : s.halted = false)
    (h : exec i s = .next t) : t.wf = true := by
  obtain ⟨hmem, -, hirq⟩ := State.wf_iff.mp hs
  rcases exec_cases h with ⟨hk, hd⟩ | ⟨-, rfl⟩ | ⟨-, rfl⟩ | ⟨-, rfl⟩ | ⟨-, hv, rfl⟩ | ⟨-, hv, rfl⟩
  · exact State.wf_iff.mpr ⟨hk.mem_wf hmem, by simp [hd], by rwa [hk.platform, hk.irq]⟩
  · exact State.wf_iff.mpr ⟨hmem, fun _ => ⟨rfl, hrun⟩, hirq⟩
  · exact State.wf_iff.mpr ⟨hmem, by simp, hirq⟩
  · exact State.wf_iff.mpr ⟨hmem, by simp, hirq⟩
  · exact State.wf_iff.mpr ⟨hmem, by simp, by simp [hv]⟩
  · exact State.wf_iff.mpr ⟨hmem, by simp, by simp [hv]⟩

/-- Settles O24: the good form survives the sampling of the inputs, then an event, the halted state, or
the fetch and the instruction. -/
theorem stepKeepsGoodForm : Obligations.StepKeepsGoodForm := by
  intro s t hs h
  have hs0 := State.sampleInputs_wf hs
  rcases step_cases h with ⟨e, he, ht⟩ | ⟨-, -, rfl⟩ | ⟨-, hrun, i, -, ht⟩
  · exact takeEvent_wf hs0 he ht
  · exact hs0
  · exact exec_wf (State.fetch_wf hs0) (by simpa using hrun) ht

/-- Settles O21: an event clears INTE, a halted machine keeps it, and of the instructions EI alone
sets it. -/
theorem onlyEiEnablesInterrupts : Obligations.OnlyEiEnablesInterrupts := by
  intro s t h hs ht
  rcases step_cases h with ⟨e, -, he⟩ | ⟨-, -, rfl⟩ | ⟨hnone, hrun, i, hdec, hexec⟩
  · simp [takeEvent_inte he] at ht
  · simp [hs] at ht
  · have hi : i = .ei := eq_ei_of_exec_sets_inte hexec (by simpa using hs) ht
    subst hi
    exact ⟨hnone, by simpa using hrun, by simpa using hdec⟩

/-! ### Register pairs, reset, and the step that runs an instruction -/

/-- Settles O5: one case for each pair written, and for each other pair read after it. -/
theorem pairsAreTheirRegisters : Obligations.PairsAreTheirRegisters := by
  intro s v
  have pair_toNat : ∀ hi lo : Byte, (joinBytes hi lo).toNat = 256 * hi.toNat + lo.toNat := by
    intro hi lo
    rw [joinBytes_toNat, Nat.mul_comm]
  refine ⟨pair_toNat _ _, pair_toNat _ _, pair_toNat _ _, fun rp => ?_, fun rp q hq => ?_, fun rp => ?_⟩
  · cases rp
    exacts [s.setBC_bc v, s.setDE_de v, s.setHL_hl v, s.setSP_sp v]
  · cases rp <;> cases q <;> simp [State.pair, State.setPair] at hq ⊢
  · cases rp <;> rfl

/-- A byte that neither the machine nor a load has written reads as the free value of its kind. -/
theorem State.content_of_not_listed {x : Word} (h : s.mem.cell x.toNat = none) :
    s.content x =
      if s.kindAt x = .rom then Config.romContents x else Config.ramAtReset s.resets x := by
  simp only [State.content, h]
  cases s.kindAt x <;> rfl

/-- Settles O23: the control state by the definition of power-on, and every byte of memory is one that
nothing has written. -/
theorem theStateAfterReset : Obligations.TheStateAfterReset := by
  refine ⟨fun p regs flags sp => ?_, _, _, _, _, rfl⟩
  exact ⟨rfl, rfl, rfl, rfl, rfl, rfl, rfl, rfl, rfl, fun x => State.content_of_not_listed rfl⟩

/-- Settles O25: memory is empty, EI_DELAY is 0, and the 8085's state is the one of reset. -/
theorem resetIsOfGoodForm : Obligations.ResetIsOfGoodForm :=
  State.wf_iff.mpr ⟨State.reset_mem_wf, nofun, fun _ => rfl⟩

/-- With no event and HALTED = 0 a step is the instruction that the fetched bytes decode to. -/
theorem step_of_decode {i : Instr} (hnone : s.sampleInputs.boundaryEvent = none)
    (hrun : s.halted = false)
    (hdec : decode s.platform.variant s.sampleInputs.fetch.1.op s.sampleInputs.fetch.1.b2
      s.sampleInputs.fetch.1.b3 = .ok i) :
    step s = exec i s.sampleInputs.fetch.2 := by
  simp [step, runInstruction, hnone, hrun, hdec]

/-- Settles O12: the inversion of `step` at its last branch, and the fields that the sampling and the
fetch write. -/
theorem stepRunsTheDecodedInstruction : Obligations.StepRunsTheDecodedInstruction := by
  intro s i hnone hrun hdec
  refine ⟨step_of_decode hnone hrun hdec, ?_⟩
  have hirq : s.sampleInputs.irq =
      { s.irq with i75 := s.irq.i75 || (decide (s.platform.variant = .i8085) &&
          (s.script.headD Inputs.quiet).rst75Edge) } := by
    rw [State.sampleInputs_irq]
    cases s.platform.variant <;> simp
  apply State.eq_of_fields <;> simp [hirq]

/-! ### A stored instruction is fetched and decoded as it was encoded -/

/-- The opcode byte alone tells the length of every encoded instruction: the lemmas of
`Laws.EncodedLength`, put together. -/
theorem encode_length (i : Instr) : (encode i).length = opcodeLength ((encode i).getD 0 0) := by
  open Laws.EncodedLength in
  exact match i with
  | .movRR q r => movRR q r | .movRM r => movRM r | .movMR r => movMR r
  | .mviR r b => mviR r b | .mviM b => mviM b
  | .stax p => stax p | .ldax p => ldax p | .sta w => sta w | .lda w => lda w
  | .lxi p w => lxi p w | .shld w => shld w | .lhld w => lhld w
  | .pushRP p => pushRP p | .pushPsw => pushPsw | .popRP p => popRP p | .popPsw => popPsw
  | .sphl => sphl | .xchg => xchg | .xthl => xthl
  | .inPort b => inPort b | .outPort b => outPort b
  | .cmc => cmc | .stc => stc | .cma => cma | .daa => daa
  | .inrR r => inrR r | .inrM => inrM | .dcrR r => dcrR r | .dcrM => dcrM
  | .inx p => inx p | .dcx p => dcx p | .dad p => dad p
  | .addR r => addR r | .addM => addM | .adi b => adi b
  | .adcR r => adcR r | .adcM => adcM | .aci b => aci b
  | .subR r => subR r | .subM => subM | .sui b => sui b
  | .sbbR r => sbbR r | .sbbM => sbbM | .sbi b => sbi b
  | .anaR r => anaR r | .anaM => anaM | .ani b => ani b
  | .xraR r => xraR r | .xraM => xraM | .xri b => xri b
  | .oraR r => oraR r | .oraM => oraM | .ori b => ori b
  | .cmpR r => cmpR r | .cmpM => cmpM | .cpi b => cpi b
  | .rlc => rlc | .rrc => rrc | .ral => ral | .rar => rar
  | .pchl => pchl | .jmp w => jmp w
  | .jnz w => jnz w | .jz w => jz w | .jnc w => jnc w | .jc w => jc w
  | .jpo w => jpo w | .jpe w => jpe w | .jp w => jp w | .jm w => jm w
  | .call w => call w | .rst n => rst n
  | .cnz w => cnz w | .cz w => cz w | .cnc w => cnc w | .cc w => cc w
  | .cpo w => cpo w | .cpe w => cpe w | .cp w => cp w | .cm w => cm w
  | .ret => ret | .rnz => rnz | .rz => rz | .rnc => rnc | .rc => rc
  | .rpo => rpo | .rpe => rpe | .rp => rp | .rm => rm
  | .ei => ei | .di => di | .hlt => hlt | .nop => nop | .rim => rim | .sim => sim

theorem opcodeLength_cases (op : Byte) :
    opcodeLength op = 1 ∨ opcodeLength op = 2 ∨ opcodeLength op = 3 := by
  unfold opcodeLength
  split
  · simp
  · split <;> simp

/-- The decoder reads an instruction back from its bytes, whatever stands in the place of the bytes it
does not have (spec/30_encoding.md R83, R96). The codes of the operands are tried one by one; a 16-bit
operand is joined again from its two bytes. -/
theorem decode_encode {v : Variant} {i : Instr} (h : i.wellFormed v = true) (x y : Byte) :
    decode v ((encode i).getD 0 0) ((encode i).getD 1 x) ((encode i).getD 2 y) = .ok i := by
  cases i with
  | movRR dst src => cases dst <;> cases src <;> rfl
  | movRM r | movMR r | inrR r | dcrR r | addR r | adcR r | subR r | sbbR r | anaR r | xraR r | oraR r
  | cmpR r => cases r <;> rfl
  | stax rp | ldax rp | pushRP rp | popRP rp | inx rp | dcx rp | dad rp => cases rp <;> rfl
  | rst n => fin_cases n <;> rfl
  | rim | sim =>
    obtain rfl : v = .i8085 := of_decide_eq_true h
    rfl
  | mviR r b =>
    simp only [encode, encodeF2, List.getD_cons_succ, List.getD_cons_zero]
    cases r <;> rfl
  | mviM b | inPort b | outPort b | adi b | aci b | sui b | sbi b | ani b | xri b | ori b | cpi b =>
    simp only [encode, encodeF2, List.getD_cons_succ, List.getD_cons_zero]
    rfl
  | lxi rp w =>
    conv_rhs => rw [← joinBytes_high_low w]
    simp only [encode, encodeF3, List.getD_cons_succ, List.getD_cons_zero]
    cases rp <;> rfl
  | sta w | lda w | shld w | lhld w | jmp w | call w
  | jnz w | jz w | jnc w | jc w | jpo w | jpe w | jp w | jm w
  | cnz w | cz w | cnc w | cc w | cpo w | cpe w | cp w | cm w =>
    conv_rhs => rw [← joinBytes_high_low w]
    simp only [encode, encodeF3, List.getD_cons_succ, List.getD_cons_zero]
    rfl
  | _ => rfl

/-- A read at an address in RAM or ROM is the content, and changes nothing. -/
theorem State.memRead_present {adr : Word} (h : s.kindAt adr ≠ .absent) :
    s.memRead adr = (s.content adr, s) := by
  unfold State.memRead
  split
  · exact absurd ‹_› h
  · rfl

/-- The bytes of `bs` stand at `pc`, `pc+1`, ... modulo 2^16, in RAM or ROM. -/
def State.Holds (s : State) (bs : List Byte) : Prop :=
  ∀ k : Nat, k < bs.length →
    s.kindAt (s.pc + BitVec.ofNat 16 k) ≠ .absent ∧
    s.content (s.pc + BitVec.ofNat 16 k) = bs.getD k 0

theorem State.Holds.memRead {bs : List Byte} (h : s.Holds bs) (k : Nat) (hk : k < bs.length) :
    s.memRead (s.pc + BitVec.ofNat 16 k) = (bs.getD k 0, s) := by
  obtain ⟨hkind, hbyte⟩ := h k hk
  rw [State.memRead_present hkind, hbyte]

/-- The fetch reads as many bytes as the first one tells, and nothing past them. -/
theorem State.Holds.fetch {bs : List Byte} (h : s.Holds bs)
    (hlen : bs.length = opcodeLength (bs.getD 0 0)) :
    s.fetch = ({ op := bs.getD 0 0, b2 := bs.getD 1 0, b3 := bs.getD 2 0 }, s) := by
  have r0 : 0 < bs.length → s.memRead s.pc = (bs.getD 0 0, s) := by simpa using h.memRead 0
  have r1 : 1 < bs.length → s.memRead (s.pc + 1) = (bs.getD 1 0, s) := h.memRead 1
  have r2 : 2 < bs.length → s.memRead (s.pc + 2) = (bs.getD 2 0, s) := h.memRead 2
  have past : ∀ k, bs.length ≤ k → bs.getD k 0 = 0 := fun k hk => List.getD_eq_default _ _ hk
  unfold State.fetch
  rcases opcodeLength_cases (bs.getD 0 0) with hop | hop | hop
  · simp only [r0 (by omega), hop, past 1 (by omega), past 2 (by omega)]
  · simp only [r0 (by omega), hop, r1 (by omega), past 2 (by omega)]
  · simp only [r0 (by omega), hop, r1 (by omega), r2 (by omega)]

/-- Settles O13: the fetch reads the stored bytes and changes nothing, and the decoder reads them back
as `i`. -/
theorem aStoredInstructionRuns : Obligations.AStoredInstructionRuns := by
  intro s i hwf hbytes hnone hrun
  have hholds : s.sampleInputs.Holds (encode i) := by simpa [State.Holds] using hbytes
  have hfetch := hholds.fetch (encode_length i)
  have hstep := step_of_decode hnone hrun (i := i) (by rw [hfetch]; exact decode_encode hwf 0 0)
  rwa [hfetch] at hstep

end Sys2Proof.Machine

end

/-! ## Proofs about memory (spec/20_memory.md)

The layers: one-byte reads and writes; two-byte accesses and the stack; what the fetch reads; what any
part of a step leaves of the world outside the processor (`Extends`); then the obligations. -/

section

namespace Sys2Proof.Machine

open Sys2Proof.Stated

variable {s t : State}

/-! ### One byte -/

theorem State.present_of_ram {adr : Word} (h : s.kindAt adr = .ram) : s.kindAt adr ≠ .absent := by
  simp [h]

/-- A read at an ABSENT address is a fresh draw. -/
theorem State.memRead_absent {adr : Word} (h : s.kindAt adr = .absent) :
    s.memRead adr = (Config.floatingBus s.draws adr, { s with draws := s.draws + 1 }) := by
  unfold State.memRead
  rw [h]

/-- A write outside RAM is dropped. -/
theorem State.memWrite_dropped {adr : Word} (v : Byte) (h : s.kindAt adr ≠ .ram) :
    s.memWrite adr v = s := by
  rw [State.memWrite_state, State.memWrite_mem, if_neg h]

theorem State.memWrite_content_ram {adr : Word} (v : Byte) (h : s.kindAt adr = .ram) (x : Word) :
    (s.memWrite adr v).content x = if x = adr then v else s.content x := by
  rw [State.memWrite_content]
  by_cases hx : x = adr
  · simp [hx, h]
  · simp [hx]

/-! ### Two bytes and the stack -/

/-- A word whose two bytes stand in RAM, the low byte first, is read whole. -/
theorem State.memRead16_of_bytes {adr v : Word} (hlo : s.kindAt adr = .ram)
    (hhi : s.kindAt (adr + 1) = .ram) (low : s.content adr = lowByte v)
    (high : s.content (adr + 1) = highByte v) : (s.memRead16 adr).1 = v := by
  rw [State.memRead16_present s adr (State.present_of_ram hlo) (State.present_of_ram hhi), low, high,
    joinBytes_high_low]

theorem State.memRead16_memWrite16 {adr : Word} (v : Word) (hlo : s.kindAt adr = .ram)
    (hhi : s.kindAt (adr + 1) = .ram) : ((s.memWrite16 adr v).memRead16 adr).1 = v := by
  have hne : adr ≠ adr + 1 := by bv_omega
  apply State.memRead16_of_bytes
  · rwa [State.memWrite16_kindAt]
  · rwa [State.memWrite16_kindAt]
  · rw [State.memWrite16_content, if_neg fun h => hne h.1, if_pos ⟨rfl, hlo⟩]
  · rw [State.memWrite16_content, if_pos ⟨rfl, hhi⟩]

/-- `push16` stores two bytes, each if its address is RAM (R60). -/
theorem State.push16_stored2 (s : State) (v : Word) :
    Stored2 s (s.push16 v) (s.sp - 1) (highByte v) (s.sp - 2) (lowByte v) := by
  intro x
  have at_address : ∀ adr, x = adr ∧ s.kindAt x = .ram ↔ x = adr ∧ s.kindAt adr = .ram :=
    fun adr => and_congr_right fun hx => by rw [hx]
  rw [State.push16_content, if_congr (at_address _) rfl (if_congr (at_address _) rfl rfl)]

theorem State.pop16_push16 (v : Word) (hhi : s.kindAt (s.sp - 1) = .ram)
    (hlo : s.kindAt (s.sp - 2) = .ram) : (s.push16 v).pop16.1 = v := by
  have hnext : s.sp - 2 + 1 = s.sp - 1 := by bv_omega
  have hne : s.sp - 1 ≠ s.sp - 2 := by bv_omega
  rw [State.pop16_value, State.push16_sp]
  apply State.memRead16_of_bytes
  · rwa [State.push16_kindAt]
  · rwa [State.push16_kindAt, hnext]
  · rw [State.push16_content, if_pos ⟨rfl, hlo⟩]
  · rw [hnext, State.push16_content, if_neg fun h => hne h.1, if_pos ⟨rfl, hhi⟩]

/-! ### The fetch -/

/-- The opcode byte is an ordinary read at `pc` (R70). -/
theorem State.fetch_op (s : State) : s.fetch.1.op = (s.memRead s.pc).1 := by
  unfold State.fetch
  dsimp only
  split <;> rfl

/-! ### What any part of a step leaves of the world outside the processor -/

/-- From `s` to `t` the platform and what ROM reads as are as they were, the trace has at most one event
more, and the count of draws has not fallen. -/
structure Extends (s t : State) : Prop where
  platform : t.platform = s.platform
  io : t.io = s.io ∨ ∃ ev, t.io = s.io ++ [ev]
  draws : s.draws ≤ t.draws
  rom : ∀ x, s.kindAt x = .rom → t.content x = s.content x

namespace Extends

theorem refl : Extends s s := ⟨rfl, .inl rfl, le_rfl, fun _ _ => rfl⟩

/-- Two parts of a step, of which the first has no port event. -/
theorem trans {u : State} (h : Extends s t) (hio : t.io = s.io) (h' : Extends t u) :
    Extends s u where
  platform := h'.platform.trans h.platform
  io := hio ▸ h'.io
  draws := h.draws.trans h'.draws
  rom x hx :=
    have hx' : t.kindAt x = .rom := by rwa [State.kindAt, h.platform]
    (h'.rom x hx').trans (h.rom x hx)

/-- One more operation without a port event, whose fields the `simp` lemmas of the state know. -/
theorem andThen {u : State} (h : Extends s t) (platform : u.platform = t.platform := by simp)
    (io : u.io = t.io := by simp) (draws : t.draws ≤ u.draws := by simp)
    (rom : ∀ x, t.kindAt x = .rom → u.content x = t.content x := by simp) : Extends s u where
  platform := platform.trans h.platform
  io := io ▸ h.io
  draws := h.draws.trans draws
  rom x hx :=
    have hx' : t.kindAt x = .rom := by rwa [State.kindAt, h.platform]
    (rom x hx').trans (h.rom x hx)

theorem ioWrite {port v : Byte} : Extends s (s.ioWrite port v) where
  platform := by simp
  io := .inr ⟨_, State.ioWrite_io s port v⟩
  draws := by simp
  rom := by simp

theorem ioRead {port : Byte} : Extends s (s.ioRead port).2 where
  platform := by simp
  io := .inr ⟨_, by rw [State.ioRead_state]⟩
  draws := by rw [State.ioRead_draws]; split <;> omega
  rom := by simp

section

variable (h : Extends s t)
include h

theorem setReg {r : Reg} {v : Byte} : Extends s (t.setReg r v) := h.andThen
theorem setBC {v : Word} : Extends s (t.setBC v) := h.andThen
theorem setDE {v : Word} : Extends s (t.setDE v) := h.andThen
theorem setHL {v : Word} : Extends s (t.setHL v) := h.andThen
theorem setSP {v : Word} : Extends s (t.setSP v) := h.andThen
theorem setFlags {f : Flags} : Extends s (t.setFlags f) := h.andThen
theorem setCarry {c : Bool} : Extends s (t.setCarry c) := h.andThen
theorem jumpTo {w : Word} : Extends s (t.jumpTo w) := h.andThen
theorem advance {len : Word} : Extends s (t.advance len) := h.andThen

/-- The interrupt and halt state is inside the processor. -/
theorem setControl {inte halted eiDelay : Bool} {irq : Irq85} :
    Extends s { t with inte := inte, halted := halted, eiDelay := eiDelay, irq := irq } :=
  h.andThen (rom := fun _ _ => rfl)

theorem setPair {rp : RegPair} {v : Word} : Extends s (t.setPair rp v) := by
  cases rp
  exacts [h.setBC, h.setDE, h.setHL, h.setSP]

theorem setStackPair {rp : StackPair} {v : Word} : Extends s (t.setStackPair rp v) := by
  cases rp
  exacts [h.setBC, h.setDE, h.setHL]

theorem accumulate {r : AluResult} : Extends s (t.accumulate r) := h.setReg.setFlags
theorem compareFlags {r : AluResult} : Extends s (t.compareFlags r) := h.setFlags

theorem memRead {adr : Word} : Extends s (t.memRead adr).2 :=
  h.andThen (draws := by rw [State.memRead_draws]; split <;> omega)
theorem readM : Extends s t.readM.2 := h.memRead
theorem memRead16 {adr : Word} : Extends s (t.memRead16 adr).2 := h.memRead.memRead
theorem pop16 : Extends s t.pop16.2 := h.memRead16.setSP

theorem pswFill : Extends s t.pswFill.2 :=
  h.andThen (draws := by unfold State.pswFill; split <;> simp)

/-- The one operation that writes memory does not write ROM (R56). -/
theorem memWrite {adr : Word} {v : Byte} : Extends s (t.memWrite adr v) :=
  h.andThen (rom := fun x hx => by simp [State.memWrite_content, hx])
theorem writeM {v : Byte} : Extends s (t.writeM v) := h.memWrite
theorem memWrite16 {adr v : Word} : Extends s (t.memWrite16 adr v) := h.memWrite.memWrite
theorem push16 {v : Word} : Extends s (t.push16 v) := h.memWrite.memWrite.setSP

theorem callTo {ret target : Word} : Extends s (t.callTo ret target) := h.push16.jumpTo
theorem returnFromStack : Extends s t.returnFromStack := h.pop16.jumpTo
theorem enterInterrupt {target : Word} : Extends s (t.enterInterrupt target) :=
  h.setControl.push16.jumpTo

theorem jumpIf {cond : Cond} {adr : Word} : Extends s (t.jumpIf cond adr) := by
  unfold State.jumpIf
  split
  exacts [h.jumpTo, h.advance]

theorem callIf {cond : Cond} {adr : Word} : Extends s (t.callIf cond adr) := by
  unfold State.callIf
  split
  exacts [h.callTo, h.advance]

theorem returnIf {cond : Cond} : Extends s (t.returnIf cond) := by
  unfold State.returnIf
  split
  exacts [h.returnFromStack, h.advance]

theorem sampleInputs : Extends s t.sampleInputs := h.andThen

theorem fetch : Extends s t.fetch.2 := by
  unfold State.fetch
  dsimp only
  split
  exacts [h.memRead, h.memRead.memRead, h.memRead.memRead.memRead]

/-- Reset leaves the outside as it is, and the bytes of ROM (log 17). -/
theorem applyReset : Extends s t.applyReset :=
  h.andThen (platform := rfl) (io := rfl) (draws := le_rfl) (rom := t.applyReset_content_rom)

end

/-- An instruction whose meaning is the next state `u` extends if `u` does. -/
theorem of_next {u : State} {φ ρ : Type} (h : Host.Outcome.next (φ := φ) (ρ := ρ) u = .next t)
    (hu : Extends s u) : Extends s t := by
  cases h
  exact hu

end Extends

/-- Every instruction is made of operations that extend; IN and OUT alone add a port event. -/
theorem exec_extends {i : Instr} (h : exec i s = .next t) : Extends s t := by
  cases i with
  | inPort _ => exact .of_next h (.advance (.setReg .ioRead))
  | outPort _ => exact .of_next h (.advance .ioWrite)
  -- control
  | nop => exact .of_next h (.advance .refl)
  | ei | di | hlt => exact .of_next h (.setControl (.advance .refl))
  | rim => obtain ⟨-, rfl⟩ := execRim_cases h; exact .advance (.setReg (.setControl .refl))
  | sim => obtain ⟨-, rfl⟩ := execSim_cases h; exact .advance (.setControl .refl)
  -- registers and flags alone
  | movRR _ _ | mviR _ _ | cma => exact .of_next h (.advance (.setReg .refl))
  | lxi _ _ | inx _ | dcx _ => exact .of_next h (.advance (.setPair .refl))
  | sphl => exact .of_next h (.advance (.setSP .refl))
  | xchg => exact .of_next h (.advance (.setDE (.setHL .refl)))
  | cmc | stc => exact .of_next h (.advance (.setCarry .refl))
  | inrR _ | dcrR _ => exact .of_next h (.advance (.setFlags (.setReg .refl)))
  | daa | addR _ | adcR _ | subR _ | sbbR _ | anaR _ | xraR _ | oraR _
  | adi _ | aci _ | sui _ | sbi _ | ani _ | xri _ | ori _ =>
    exact .of_next h (.advance (.accumulate .refl))
  | cmpR _ | cpi _ => exact .of_next h (.advance (.compareFlags .refl))
  | rlc | rrc | ral | rar => exact .of_next h (.advance (.setCarry (.setReg .refl)))
  | dad _ => exact .of_next h (.advance (.setCarry (.setHL .refl)))
  -- reads of memory
  | movRM _ => exact .of_next h (.advance (.setReg (.readM .refl)))
  | ldax _ | lda _ => exact .of_next h (.advance (.setReg (.memRead .refl)))
  | lhld _ => exact .of_next h (.advance (.setHL (.memRead16 .refl)))
  | popRP _ => exact .of_next h (.advance (.setStackPair (.pop16 .refl)))
  | popPsw => exact .of_next h (.advance (.setFlags (.setReg (.pop16 .refl))))
  | addM | adcM | subM | sbbM | anaM | xraM | oraM =>
    exact .of_next h (.advance (.accumulate (.readM .refl)))
  | cmpM => exact .of_next h (.advance (.compareFlags (.readM .refl)))
  -- writes of memory
  | movMR _ | mviM _ => exact .of_next h (.advance (.writeM .refl))
  | stax _ | sta _ => exact .of_next h (.advance (.memWrite .refl))
  | shld _ => exact .of_next h (.advance (.memWrite16 .refl))
  | pushRP _ => exact .of_next h (.advance (.push16 .refl))
  | pushPsw => exact .of_next h (.advance (.push16 (.pswFill .refl)))
  | xthl => exact .of_next h (.advance (.setHL (.memWrite (.memWrite (.memRead16 .refl)))))
  | inrM | dcrM => exact .of_next h (.advance (.setFlags (.writeM (.readM .refl))))
  -- branches, calls and returns
  | pchl | jmp _ => exact .of_next h (.jumpTo .refl)
  | jnz _ | jz _ | jnc _ | jc _ | jpo _ | jpe _ | jp _ | jm _ => exact .of_next h (.jumpIf .refl)
  | call _ | rst _ => exact .of_next h (.callTo .refl)
  | cnz _ | cz _ | cnc _ | cc _ | cpo _ | cpe _ | cp _ | cm _ => exact .of_next h (.callIf .refl)
  | ret => exact .of_next h (.returnFromStack .refl)
  | rnz | rz | rnc | rc | rpo | rpe | rp | rm => exact .of_next h (.returnIf .refl)

theorem takeEvent_extends {e : BoundaryEvent} (h : takeEvent e s = .next t) : Extends s t := by
  rcases takeEvent_cases h with
    ⟨-, rfl⟩ | ⟨-, rfl⟩ | ⟨-, rfl⟩ | ⟨-, rfl⟩ | ⟨-, rfl⟩ | ⟨_, -, rfl⟩
  · exact .applyReset .refl
  · exact .enterInterrupt (.setControl .refl)
  · exact .enterInterrupt (.setControl .refl)
  all_goals exact .enterInterrupt .refl

/-- The sampling and the fetch have no port event, so a step has at most the one of its instruction. -/
theorem step_extends (h : step s = .next t) : Extends s t := by
  have hsample : Extends s s.sampleInputs := .sampleInputs .refl
  rcases step_cases h with ⟨_, -, he⟩ | ⟨-, -, rfl⟩ | ⟨-, -, _, -, hexec⟩
  · exact hsample.trans (by simp) (takeEvent_extends he)
  · exact hsample
  · exact hsample.fetch.trans (by simp) (exec_extends hexec)

/-! ### The obligations of this family -/

/-- Settles O6: the two branches of a read. -/
theorem readingAByte : Obligations.ReadingAByte :=
  fun _ _ => ⟨State.memRead_present, State.memRead_absent⟩

/-- Settles O7: the frame of a write and its two branches. -/
theorem writingAByte : Obligations.WritingAByte := fun s adr v =>
  ⟨fun hram => ⟨s.memWrite_state adr v, State.memWrite_content_ram v hram⟩,
    State.memWrite_dropped v⟩

/-- Settles O8: the order of the accesses is that of the definitions; the two addresses differ, so the
second store leaves the first byte. -/
theorem twoByteAccesses : Obligations.TwoByteAccesses :=
  fun _ _ v => ⟨rfl, rfl, State.memRead16_memWrite16 v⟩

/-- Settles O9: the frame and the stores of a push; the bytes and the frame of a pop. -/
theorem pushAndPop : Obligations.PushAndPop := fun s v =>
  ⟨⟨s.push16_state v, s.push16_stored2 v⟩, Prod.ext s.pop16_value s.pop16_state⟩

/-- Settles O10: both bytes are read back, and SP goes down by 2 and up by 2. -/
theorem popUndoesPush : Obligations.PopUndoesPush := fun s v hhi hlo =>
  ⟨State.pop16_push16 v hhi hlo, by simp⟩

/-- Settles O11: the fetch reads its opcode byte from memory, where STA has stored A. -/
theorem theNextFetchSeesTheStore : Obligations.TheNextFetchSeesTheStore := by
  intro s hram
  refine ⟨(s.memWrite (s.pc + 3) s.regs.a).advance 3, rfl, by simp, ?_⟩
  have hpresent : ((s.memWrite (s.pc + 3) s.regs.a).advance 3).kindAt (s.pc + 3) ≠ .absent := by
    rw [State.advance_kindAt, State.memWrite_kindAt]
    exact State.present_of_ram hram
  rw [State.fetch_op, State.advance_pc, State.memWrite_pc, State.memRead_present hpresent,
    State.advance_content, State.memWrite_content_ram _ hram, if_pos rfl]

/-- Settles O26: every part of a step extends. -/
theorem stepKeepsPlatformAndTrace : Obligations.StepKeepsPlatformAndTrace := fun _ _ h =>
  have hext := step_extends h
  ⟨hext.platform, hext.io, hext.draws⟩

/-- Settles O27: of the parts of a step only writes and reset touch memory, and neither touches ROM. -/
theorem romNeverChanges : Obligations.RomNeverChanges := fun _ _ x h => (step_extends h).rom x

end Sys2Proof.Machine

end

/-! ## Proofs about the encoding (spec/30_encoding.md)

One walk through the decoder says what it can answer (`decode_answers`): an instruction of the variant
whose bytes are the bytes read, or the rejection of an unassigned byte. With `decode_encode` it settles
the obligations on decoding, and tells when a step is refused. -/

section

namespace Sys2Proof.Machine

open Sys2Proof.Stated

variable {v : Variant} {op b2 b3 : Byte} {i : Instr} {s : State}

/-! ### The fields of an opcode byte (R82, R84) -/

/-- An opcode byte is a group, a row and a column. -/
theorem exists_opcode_fields (op : Byte) : ∃ (g : BitVec 2) (y z : BitVec 3), op = g ++ y ++ z := by
  refine ⟨op.extractLsb' 6 2, op.extractLsb' 3 3, op.extractLsb' 0 3, ?_⟩
  have hgroup : op.extractLsb' 6 2 ++ op.extractLsb' 3 3 = op.extractLsb' 3 5 :=
    BitVec.extractLsb'_append_extractLsb'_eq_extractLsb' rfl
  rw [hgroup]
  exact (BitVec.extractLsb'_append_extractLsb' (w := 5) (len := 3)).symm

/-- A row is a pair code and the bit `q` that tells apart the instructions of one pair. -/
theorem exists_row_fields (y : BitVec 3) : ∃ (pp : BitVec 2) (q : BitVec 1), y = pp ++ q :=
  ⟨y.extractLsb' 1 2, y.extractLsb' 0 1, 
    (BitVec.extractLsb'_append_extractLsb' (w := 2) (len := 1)).symm⟩

section

variable (g : BitVec 2) (y z : BitVec 3)

theorem opcode_group : (g ++ y ++ z).extractLsb' 6 2 = g := by
  rw [BitVec.extractLsb'_append_eq_of_le (by decide), BitVec.extractLsb'_append_eq_left]

theorem opcode_row : (g ++ y ++ z).extractLsb' 3 3 = y := by
  rw [BitVec.extractLsb'_append_eq_of_le (by decide), BitVec.extractLsb'_append_eq_right]

theorem opcode_column : (g ++ y ++ z).extractLsb' 0 3 = z := BitVec.extractLsb'_append_eq_right

end

/-- The eight values of a row, a column or an operand code, one case for each. -/
theorem code_cases {P : BitVec 3 → Prop} (c0 : P 0) (c1 : P 1) (c2 : P 2) (c3 : P 3) (c4 : P 4)
    (c5 : P 5) (c6 : P 6) (c7 : P 7) (c : BitVec 3) : P c := by
  fin_cases c
  exacts [c0, c1, c2, c3, c4, c5, c6, c7]

/-- A 3-bit code is that of the memory operand or that of a register. -/
theorem regOfCode_cases (c : BitVec 3) :
    (c = codeM ∧ regOfCode c = none) ∨ ∃ r : Reg, c = r.code ∧ regOfCode c = some r := by
  cases c using code_cases with
  | c6 => exact .inl ⟨rfl, rfl⟩
  | _ => exact .inr ⟨_, rfl, rfl⟩

/-! ### What the decoder can answer -/

/-- `d` is a right answer to the bytes `op b2 b3`: an instruction that `v` has and whose encoding they
begin with, or the rejection of an unassigned byte by name. -/
def Answers (v : Variant) (op b2 b3 : Byte) : Except Reject Instr → Prop
  | .ok i => i.wellFormed v = true ∧ encode i <+: [op, b2, b3]
  | .error r => op ∈ unassigned v ∧ r = .unassigned op

namespace Answers

/-- The formats F1, F2 and F3 (R80). -/
theorem f1 (hwf : i.wellFormed v = true) (h : encode i = encodeF1 op) : Answers v op b2 b3 (.ok i) :=
  ⟨hwf, h ▸ ⟨[b2, b3], rfl⟩⟩

theorem f2 (hwf : i.wellFormed v = true) (h : encode i = encodeF2 op b2) :
    Answers v op b2 b3 (.ok i) :=
  ⟨hwf, h ▸ ⟨[b3], rfl⟩⟩

theorem f3 (hwf : i.wellFormed v = true) (h : encode i = encodeF3 op (joinBytes b3 b2)) :
    Answers v op b2 b3 (.ok i) :=
  ⟨hwf, h ▸ ⟨[], by simp [encodeF3]⟩⟩

/-- A byte without an instruction on either variant. -/
theorem rejected (h : op ∈ unassigned .i8085) : Answers v op b2 b3 (.error (.unassigned op)) := by
  refine ⟨?_, rfl⟩
  cases v with
  | i8080 => exact List.mem_append_left [0x20, 0x30] h
  | i8085 => exact h

end Answers

variable (y z : BitVec 3)

/-- Group 00: NOP, RIM, SIM and the rejected bytes stand in column 0; LXI and DAD share column 1, where `q`
tells them apart; column 2 has four one-byte and four three-byte instructions, column 6 is MVI. -/
theorem decodeGroup00_answers :
    Answers v (0b00#2 ++ y ++ z) b2 b3 (decodeGroup00 v (0b00#2 ++ y ++ z) b2 b3) := by
  obtain ⟨pp, q, hy⟩ := exists_row_fields y
  cases z using code_cases with
  | c0 =>
    cases y using code_cases with
    | c0 => exact .f1 rfl rfl
    | c4 | c6 => cases v; exacts [⟨by decide, rfl⟩, .f1 rfl rfl]
    | _ => exact .rejected (by decide)
  | c1 =>
    subst hy
    fin_cases q
    · fin_cases pp <;> exact .f3 rfl rfl
    · fin_cases pp <;> exact .f1 rfl rfl
  | c2 =>
    cases y using code_cases with
    | c0 | c1 | c2 | c3 => exact .f1 rfl rfl
    | _ => exact .f3 rfl rfl
  | c6 => cases y using code_cases <;> exact .f2 rfl rfl
  | _ => cases y using code_cases <;> exact .f1 rfl rfl

/-- Group 01: MOV, by what each of its two codes is. -/
theorem decodeGroup01_answers :
    Answers v (0b01#2 ++ y ++ z) b2 b3 (decodeGroup01 (0b01#2 ++ y ++ z)) := by
  rw [decodeGroup01, opcode_row, opcode_column]
  rcases regOfCode_cases y with ⟨rfl, hy⟩ | ⟨dst, rfl, hy⟩ <;>
    rcases regOfCode_cases z with ⟨rfl, hz⟩ | ⟨src, rfl, hz⟩ <;> simp only [hy, hz] <;>
    exact .f1 rfl rfl

/-- Group 10: the operation is the row, by what the operand's code is. -/
theorem decodeGroup10_answers :
    Answers v (0b10#2 ++ y ++ z) b2 b3 (decodeGroup10 (0b10#2 ++ y ++ z)) := by
  rw [decodeGroup10, opcode_row, opcode_column]
  rcases regOfCode_cases z with ⟨rfl, hz⟩ | ⟨src, rfl, hz⟩ <;> rw [hz]
  · cases y using code_cases <;> exact .f1 rfl rfl
  · cases y using code_cases <;> exact .f1 rfl rfl

/-- Group 11: Jcc and Ccc are columns 2 and 4, the immediate operations column 6; the rejected bytes stand in
columns 1, 3 and 5. -/
theorem decodeGroup11_answers :
    Answers v (0b11#2 ++ y ++ z) b2 b3 (decodeGroup11 (0b11#2 ++ y ++ z) b2 b3) := by
  cases z using code_cases with
  | c1 =>
    cases y using code_cases with
    | c3 => exact .rejected (by decide)
    | _ => exact .f1 rfl rfl
  | c2 | c4 => cases y using code_cases <;> exact .f3 rfl rfl
  | c3 =>
    cases y using code_cases with
    | c0 => exact .f3 rfl rfl
    | c1 => exact .rejected (by decide)
    | c2 | c3 => exact .f2 rfl rfl
    | _ => exact .f1 rfl rfl
  | c5 =>
    cases y using code_cases with
    | c1 => exact .f3 rfl rfl
    | c3 | c5 | c7 => exact .rejected (by decide)
    | _ => exact .f1 rfl rfl
  | c6 => cases y using code_cases <;> exact .f2 rfl rfl
  | _ => cases y using code_cases <;> exact .f1 rfl rfl

/-- Whatever the decoder answers is right, since each group's answer is. -/
theorem decode_answers (v : Variant) (op b2 b3 : Byte) : Answers v op b2 b3 (decode v op b2 b3) := by
  obtain ⟨g, y, z, rfl⟩ := exists_opcode_fields op
  rw [decode, opcode_group]
  fin_cases g
  · exact decodeGroup00_answers y z
  · exact decodeGroup01_answers y z
  · exact decodeGroup10_answers y z
  · exact decodeGroup11_answers y z

/-- The decoder rejects an unassigned byte by name. -/
theorem decode_unassigned (h : op ∈ unassigned v) :
    decode v op b2 b3 = .error (.unassigned op) := by
  cases v <;> fin_cases h <;> rfl

theorem decode_ok (h : decode v op b2 b3 = .ok i) :
    i.wellFormed v = true ∧ encode i <+: [op, b2, b3] := by
  have hans := decode_answers v op b2 b3
  rwa [h] at hans

theorem decode_ok_or_unassigned (v : Variant) (op b2 b3 : Byte) :
    (∃ i, decode v op b2 b3 = .ok i) ∨ op ∈ unassigned v := by
  have hans := decode_answers v op b2 b3
  cases h : decode v op b2 b3 with
  | ok i => exact .inl ⟨i, rfl⟩
  | error r => rw [h] at hans; exact .inr hans.1

/-- If the bytes read begin with an encoding, it is as many of them as the opcode byte tells. -/
theorem encode_eq_take (h : encode i <+: [op, b2, b3]) :
    encode i = [op, b2, b3].take (opcodeLength op) := by
  obtain ⟨rest, hrest⟩ := h
  have hlen := encode_length i
  cases he : encode i with
  | nil => rw [he] at hlen; exact absurd hlen (by decide)
  | cons b bs =>
    rw [he] at hrest hlen
    obtain ⟨rfl, -⟩ := List.cons_eq_cons.mp hrest
    rw [← hrest]
    exact (List.take_left' hlen).symm

/-! ### A refused step -/

/-- Every instruction that the variant has is given a meaning. -/
theorem exec_of_wellFormed (h : i.wellFormed s.platform.variant = true) :
    ∃ t, exec i s = .next t := by
  cases i with
  | rim =>
    have hv : s.platform.variant = .i8085 := of_decide_eq_true h
    exact ⟨_, by rw [exec, execRim, hv]⟩
  | sim =>
    have hv : s.platform.variant = .i8085 := of_decide_eq_true h
    exact ⟨_, by rw [exec, execSim, hv]⟩
  | _ => exact ⟨_, rfl⟩

/-- Of the events only an instruction from the device is refused (R269, log 16). -/
theorem takeEvent_refused_iff {e : BoundaryEvent} {r : Refusal} :
    takeEvent e s = .refused r ↔ ∃ op, e = .injected op ∧ r = .injectedInstruction op := by
  cases e <;> simp [takeEvent, eq_comm]

/-- A fetched instruction is refused when the opcode byte has none: one that decodes is run. -/
theorem runInstruction_refused_iff {r : Refusal} :
    runInstruction s = .refused r ↔
      s.fetch.1.op ∈ unassigned s.platform.variant ∧ r = .unassignedOpcode s.fetch.1.op := by
  constructor
  · intro h
    rcases decode_ok_or_unassigned s.platform.variant s.fetch.1.op s.fetch.1.b2 s.fetch.1.b3 with
      ⟨i, hi⟩ | hun
    · obtain ⟨t, ht⟩ := exec_of_wellFormed (i := i) (s := s.fetch.2) (by simpa using (decode_ok hi).1)
      simp [runInstruction, hi, ht] at h
    · simp only [runInstruction, decode_unassigned hun] at h
      cases h
      exact ⟨hun, rfl⟩
  · rintro ⟨hun, rfl⟩
    simp only [runInstruction, decode_unassigned hun]

/-! ### The obligations of this family -/

/-- Settles O1: the decoder reads every instruction back from its bytes. -/
theorem decodeUndoesEncode : Obligations.DecodeUndoesEncode := fun _ _ => decode_encode

/-- Settles O2: the instruction's bytes begin those read, and the first tells how many they are. -/
theorem encodeUndoesDecode : Obligations.EncodeUndoesDecode := fun _ _ _ _ _ h =>
  have ⟨hwf, hbytes⟩ := decode_ok h
  ⟨hwf, encode_eq_take hbytes⟩

/-- Settles O3: the list byte by byte, and no other byte is rejected. -/
theorem unassignedBytesAreRejected : Obligations.UnassignedBytesAreRejected := fun v op b2 b3 =>
  ⟨decode_unassigned, (decode_ok_or_unassigned v op b2 b3).resolve_right⟩

/-- Settles O4: each word is what the encoder writes for its instruction. -/
theorem wordsOfTheOpcodeMap : Obligations.WordsOfTheOpcodeMap :=
  ⟨decode_encode (i := .movRR .b .c) rfl 0 0, decode_encode (i := .lxi .hl 0x1234) rfl 0 0,
    decode_encode (i := .xthl) rfl 0 0, decode_encode (i := .inPort 0x10) rfl 0 0,
    decode_encode (i := .inrM) rfl 0 0, decode_encode (i := .sbbR .l) rfl 0 0,
    decode_encode (i := .dad .sp) rfl 0 0, decode_encode (i := .jp 0x0200) rfl 0 0,
    decode_encode (i := .rst 3) rfl 0 0, decode_encode (i := .rim) rfl 0 0⟩

/-- Settles O19: the three ways of a step, of which an event and an instruction can be refused. -/
theorem refusedExactlyWhen : Obligations.RefusedExactlyWhen := by
  intro s r
  cases hev : s.sampleInputs.boundaryEvent with
  | some e => simp [step, hev, takeEvent_refused_iff]
  | none =>
    cases hh : s.halted with
    | true => simp [step, hev, hh]
    | false => simp [step, hev, hh, runInstruction_refused_iff]

end Sys2Proof.Machine

end

/-! ## Proofs about the one byte transfers (spec/40_transfer_one_byte.md)

The encoder and `decode_encode` give the bytes of a form on both variants (`isF1_of_encode` and its like);
then one rule for each of the three shapes of a transfer: a value moved into a register, a byte loaded
into a register, a byte stored. -/

section

namespace Sys2Proof.Machine

open Sys2Proof.Stated

/-! ### The three formats, read off the encoder (R80) -/

theorem isF1_of_encode {op : Byte} {i : Instr} (hwf : ∀ v, i.wellFormed v = true)
    (h : encode i = encodeF1 op) : IsF1 op i := by
  constructor
  · simpa [h, encodeF1] using (encode_length i).symm
  · intro v b2 b3
    simpa [h, encodeF1] using decode_encode (hwf v) b2 b3

theorem isF2_of_encode {op : Byte} {i : Byte → Instr} (hwf : ∀ v b, (i b).wellFormed v = true)
    (h : ∀ b, encode (i b) = encodeF2 op b) : IsF2 op i := by
  constructor
  · simpa [h, encodeF2] using (encode_length (i 0)).symm
  · intro v b2 b3
    simpa [h, encodeF2] using decode_encode (hwf v b2) b2 b3

theorem isF3_of_encode {op : Byte} {i : Word → Instr} (hwf : ∀ v w, (i w).wellFormed v = true)
    (h : ∀ w, encode (i w) = encodeF3 op w) : IsF3 op i := by
  constructor
  · simpa [h, encodeF3] using (encode_length (i 0)).symm
  · intro v lo hi
    change decode v op lo hi = .ok (i (joinBytes hi lo))
    simpa [h, encodeF3] using decode_encode (hwf v (joinBytes hi lo)) lo hi

/-! ### The three shapes of a transfer -/

variable {s : State} {i : Instr}

/-- A value moved into a register: that register, `pc` and EI_DELAY are all that is written. -/
theorem exec_moves {dst : Reg} {v : Byte} {len : Word}
    (h : exec i s = .next ((s.setReg dst v).advance len)) :
    ∃ t, exec i s = .next t ∧
      t = { s with regs := t.regs, pc := s.pc + len, eiDelay := false } ∧
      (∀ r, t.reg r = if r = dst then v else s.reg r) ∧ MemorySame s t := by
  refine ⟨_, h, ?frame, fun r => ?regs, fun x => ?memory⟩
  case frame => apply State.eq_of_fields <;> simp
  case regs => rw [State.advance_reg, State.reg_setReg]
  case memory => rw [State.advance_content, State.setReg_content]

/-- A byte loaded into a register: as a move, and the read may draw (R55). -/
theorem exec_loads {dst : Reg} {adr len : Word}
    (h : exec i s = .next (((s.memRead adr).2.setReg dst (s.memRead adr).1).advance len)) :
    ∃ t, exec i s = .next t ∧
      t = { s with regs := t.regs, pc := s.pc + len, eiDelay := false,
                   draws := (s.memRead adr).2.draws } ∧
      (∀ r, t.reg r = if r = dst then (s.memRead adr).1 else s.reg r) ∧ MemorySame s t := by
  refine ⟨_, h, ?frame, fun r => ?regs, fun x => ?memory⟩
  case frame => apply State.eq_of_fields <;> simp
  case regs => rw [State.advance_reg, State.reg_setReg, State.memRead_reg]
  case memory => rw [State.advance_content, State.setReg_content, State.memRead_content]

/-- A write stores its byte if the address is RAM, and no other (R56). -/
theorem State.memWrite_stored (s : State) (adr : Word) (v : Byte) :
    Stored s (s.memWrite adr v) adr v := by
  intro x
  have at_address : x = adr ∧ s.kindAt x = .ram ↔ x = adr ∧ s.kindAt adr = .ram :=
    and_congr_right fun hx => by rw [hx]
  rw [State.memWrite_content, if_congr at_address rfl rfl]

/-- A byte stored: memory at the address, `pc` and EI_DELAY are all that is written. -/
theorem exec_stores {adr len : Word} {v : Byte}
    (h : exec i s = .next ((s.memWrite adr v).advance len)) :
    ∃ t, exec i s = .next t ∧
      t = { s with mem := t.mem, pc := s.pc + len, eiDelay := false } ∧ Stored s t adr v := by
  refine ⟨_, h, ?frame, fun x => ?memory⟩
  case frame => apply State.eq_of_fields <;> simp
  case memory => rw [State.advance_content, s.memWrite_stored adr v x]

/-! ### The obligations of this family -/

/-- Settles O28: both forms move a value into a register. -/
theorem movesIntoARegister : Obligations.MovesIntoARegister := by
  refine ⟨fun s dst src => ⟨?movRR, exec_moves rfl⟩, fun s dst d8 => ⟨?mviR, exec_moves rfl⟩⟩
  case movRR => exact isF1_of_encode (fun _ => rfl) rfl
  case mviR => exact isF2_of_encode (fun _ _ => rfl) fun _ => rfl

/-- Settles O29: the three forms load a byte, from three addresses. -/
theorem loadsOfAByte : Obligations.LoadsOfAByte := by
  refine ⟨fun s dst => ⟨?movRM, exec_loads rfl⟩, fun s rp => ⟨?ldax, exec_loads rfl⟩,
    fun s adr => ⟨?lda, exec_loads rfl⟩⟩
  case movRM => exact isF1_of_encode (fun _ => rfl) rfl
  case ldax => exact isF1_of_encode (fun _ => rfl) rfl
  case lda => exact isF3_of_encode (fun _ _ => rfl) fun _ => rfl

/-- Settles O30: the four forms store a byte, at three addresses. The pattern of MOV M, R is that of MOV
with the code of M for the destination. -/
theorem storesOfAByte : Obligations.StoresOfAByte := by
  refine ⟨fun s src => ⟨?movMR, exec_stores rfl⟩, fun s d8 => ⟨?mviM, exec_stores rfl⟩,
    fun s rp => ⟨?stax, exec_stores rfl⟩, fun s adr => ⟨?sta, exec_stores rfl⟩⟩
  case movMR => exact isF1_of_encode (fun _ => rfl) (by cases src <;> rfl)
  case mviM => exact isF2_of_encode (fun _ _ => rfl) fun _ => rfl
  case stax => exact isF1_of_encode (fun _ => rfl) rfl
  case sta => exact isF3_of_encode (fun _ _ => rfl) fun _ => rfl

end Sys2Proof.Machine

end

/-! ## Proofs about the two bytes transfers (spec/41_transfer_two_bytes.md)

Rules for the operations these instructions are made of: a pair read after a pair is written, two writes,
two reads, the bits of the byte F. Then what each instruction makes of the state in these terms, with one shape for the
two pushes, and the obligations. -/

section

namespace Sys2Proof.Machine

open Sys2Proof.Stated

variable (s : State)

/-! ### Pairs -/

theorem State.pair_setPair (rp q : RegPair) (v : Word) :
    (s.setPair rp v).pair q = if q = rp then v else s.pair q := by
  obtain ⟨-, -, -, written, others, -⟩ := pairsAreTheirRegisters s v
  split
  case isTrue h => exact h ▸ written q
  case isFalse h => exact others rp q h

@[simp] theorem State.advance_pair (len : Word) (rp : RegPair) : (s.advance len).pair rp = s.pair rp := by
  cases rp <;> rfl

theorem State.highByte_hl : highByte s.hl = s.regs.h := highByte_joinBytes _ _

theorem State.lowByte_hl : lowByte s.hl = s.regs.l := lowByte_joinBytes _ _

/-- Writing a pair leaves A and everything outside the registers and SP. -/
theorem State.setPair_state (rp : RegPair) (v : Word) :
    s.setPair rp v =
      { s with regs := { (s.setPair rp v).regs with a := s.regs.a }, sp := (s.setPair rp v).sp } := by
  obtain ⟨-, -, -, -, -, frame⟩ := pairsAreTheirRegisters s v
  exact frame rp

@[simp] theorem State.setPair_content (rp : RegPair) (v x : Word) :
    (s.setPair rp v).content x = s.content x := by
  rw [State.setPair_state]
  rfl

/-- Writing a pair of POP leaves everything outside the registers. -/
theorem State.setStackPair_state (rp : StackPair) (v : Word) :
    s.setStackPair rp v = { s with regs := (s.setStackPair rp v).regs } := by
  cases rp <;> rfl

@[simp] theorem State.setStackPair_content (rp : StackPair) (v x : Word) :
    (s.setStackPair rp v).content x = s.content x := by
  rw [State.setStackPair_state]
  rfl

/-! ### Two accesses to memory -/

/-- Of two writes the second stands where both meet. -/
theorem State.memWrite_memWrite_stored2 (adr1 adr2 : Word) (v1 v2 : Byte) :
    Stored2 s ((s.memWrite adr1 v1).memWrite adr2 v2) adr1 v1 adr2 v2 := by
  intro x
  rw [State.memWrite_stored _ adr2 v2 x, State.memWrite_stored s adr1 v1 x, State.memWrite_kindAt]

theorem State.memWrite16_stored2 (adr v : Word) :
    Stored2 s (s.memWrite16 adr v) adr (lowByte v) (adr + 1) (highByte v) :=
  s.memWrite_memWrite_stored2 adr (adr + 1) (lowByte v) (highByte v)

theorem State.memRead16_eq (adr : Word) :
    s.memRead16 adr =
      (joinBytes (secondByte s adr) (firstByte s adr), { s with draws := drawsAfterTwo s adr }) :=
  Prod.ext (s.memRead16_value adr) (s.memRead16_state adr)

theorem State.pop16_eq :
    s.pop16 = (joinBytes (secondByte s s.sp) (firstByte s s.sp),
      { s with sp := s.sp + 2, draws := drawsAfterTwo s s.sp }) :=
  Prod.ext s.pop16_value s.pop16_state

/-! ### The byte F (spec/10_state.md R33) -/

/-- The five flags stand where POP PSW takes them from. -/
theorem flagByte_flags (f : Flags) (d5 d1 : Bool) :
    (flagByte f d5 d1).getLsbD 7 = f.s ∧ (flagByte f d5 d1).getLsbD 6 = f.z ∧
    (flagByte f d5 d1).getLsbD 4 = f.ac ∧ (flagByte f d5 d1).getLsbD 2 = f.p ∧
    (flagByte f d5 d1).getLsbD 0 = f.cy := by
  have taken_back := flagsOfByte_flagByte f d5 d1
  exact ⟨congrArg Flags.s taken_back, congrArg Flags.z taken_back, congrArg Flags.ac taken_back,
    congrArg Flags.p taken_back, congrArg Flags.cy taken_back⟩

theorem flagByte_others (f : Flags) (d5 d1 : Bool) :
    (flagByte f d5 d1).getLsbD 5 = d5 ∧ (flagByte f d5 d1).getLsbD 3 = false ∧
    (flagByte f d5 d1).getLsbD 1 = d1 := by
  simp only [flagByte, BitVec.getLsbD_append, BitVec.getLsbD_ofBool]
  simp

theorem State.pswFill_8085_draws (h : s.platform.variant = .i8085) :
    s.pswFill.2.draws = s.draws + 1 := by
  simp [State.pswFill, h]

/-! ### What the instructions make of the state -/

theorem exec_lhld (adr : Word) :
    exec (.lhld adr) s =
      .next (({ s with draws := drawsAfterTwo s adr }.setHL
        (joinBytes (secondByte s adr) (firstByte s adr))).advance 3) := by
  change Host.Outcome.next (((s.memRead16 adr).2.setHL (s.memRead16 adr).1).advance 3) = _
  rw [State.memRead16_eq]

theorem exec_popRP (rp : StackPair) :
    exec (.popRP rp) s =
      .next (({ s with sp := s.sp + 2, draws := drawsAfterTwo s s.sp }.setStackPair rp
        (joinBytes (secondByte s s.sp) (firstByte s s.sp))).advance 1) := by
  change Host.Outcome.next ((s.pop16.2.setStackPair rp s.pop16.1).advance 1) = _
  rw [State.pop16_eq]

theorem exec_popPsw :
    exec .popPsw s =
      .next ((({ s with sp := s.sp + 2, draws := drawsAfterTwo s s.sp }.setReg .a
        (secondByte s s.sp)).setFlags (flagsOfByte (firstByte s s.sp))).advance 1) := by
  change Host.Outcome.next (((s.pop16.2.setReg .a (highByte s.pop16.1)).setFlags
    (flagsOfByte (lowByte s.pop16.1))).advance 1) = _
  rw [State.pop16_eq, highByte_joinBytes, lowByte_joinBytes]

theorem exec_pushPsw :
    exec .pushPsw s =
      .next (({ s with draws := s.pswFill.2.draws }.push16
        (joinBytes s.regs.a (flagByte s.flags s.pswFill.1.1 s.pswFill.1.2))).advance 1) := by
  rw [← State.pswFill_state]
  rfl

variable {s}

/-- A word pushed, after the draw that PUSH PSW may make: memory, SP, `pc`, EI_DELAY and that count are all
that is written. -/
theorem exec_pushes {i : Instr} {v : Word} {draws : Nat}
    (h : exec i s = .next (({ s with draws := draws }.push16 v).advance 1)) :
    ∃ t, exec i s = .next t ∧
      t = { s with mem := t.mem, sp := s.sp - 2, pc := s.pc + 1, eiDelay := false, draws := draws } ∧
      Stored2 s t (s.sp - 1) (highByte v) (s.sp - 2) (lowByte v) := by
  refine ⟨_, h, ?frame, ?memory⟩
  case frame => exact congrArg (·.advance 1) (State.push16_state _ v)
  case memory => exact State.push16_stored2 { s with draws := draws } v

/-! ### The obligations of this family -/

/-- Settles O31: a pair takes the operand of LXI, and SP takes HL. -/
theorem loadsOfAPairAndOfSP : Obligations.LoadsOfAPairAndOfSP := by
  refine ⟨fun s rp d16 => ⟨?lxi, _, rfl, ?frame, fun q => ?pairs, fun x => ?memory⟩,
    fun s => ⟨?sphl, _, rfl, rfl, fun _ => rfl⟩⟩
  case lxi => exact isF3_of_encode (fun _ _ => rfl) fun _ => rfl
  case frame => exact congrArg (·.advance 3) (s.setPair_state rp d16)
  case pairs => rw [State.advance_pair, State.pair_setPair]
  case memory => rw [State.advance_content, State.setPair_content]
  case sphl => exact isF1_of_encode (fun _ => rfl) rfl

/-- Settles O32: HL is stored and loaded by a two byte access, L the low byte. -/
theorem hlDirect : Obligations.HLDirect := by
  refine ⟨fun s adr => ⟨?shld, _, rfl, ?stored_frame, ?stored⟩,
    fun s adr => ⟨?lhld, _, exec_lhld s adr, ?loaded_frame, fun _ => rfl⟩⟩
  case shld => exact isF3_of_encode (fun _ _ => rfl) fun _ => rfl
  case stored_frame => exact congrArg (·.advance 3) (s.memWrite16_state adr s.hl)
  case stored =>
    rw [← s.lowByte_hl, ← s.highByte_hl]
    exact s.memWrite16_stored2 adr s.hl
  case lhld => exact isF3_of_encode (fun _ _ => rfl) fun _ => rfl
  case loaded_frame => apply State.eq_of_fields <;> simp

/-- Settles O33: `push16` of the pair, whose two bytes are its registers. -/
theorem pushOfAPair : Obligations.PushOfAPair := by
  intro s rp
  obtain ⟨t, hexec, frame, stored⟩ := exec_pushes (s := s) (i := .pushRP rp) rfl
  refine ⟨isF1_of_encode (fun _ => rfl) rfl, t, hexec, frame, ?bc, ?de, ?hl⟩
  all_goals
    rintro rfl
    simpa [State.stackPair, State.bc, State.de, State.hl] using stored

/-- Settles O34: `push16` of A and the byte F; the variant tells bits 5 and 1 and the draw. -/
theorem pushOfPSW : Obligations.PushOfPSW := by
  intro s
  obtain ⟨t, hexec, frame, stored⟩ := exec_pushes (exec_pushPsw s)
  rw [highByte_joinBytes, lowByte_joinBytes] at stored
  have hdraws : t.draws = s.pswFill.2.draws := by rw [frame]
  obtain ⟨bit7, bit6, bit4, bit2, bit0⟩ := flagByte_flags s.flags s.pswFill.1.1 s.pswFill.1.2
  obtain ⟨bit5, bit3, bit1⟩ := flagByte_others s.flags s.pswFill.1.1 s.pswFill.1.2
  refine ⟨isF1_of_encode (fun _ => rfl) rfl, t, _, hexec, ?frame, stored,
    bit7, bit6, bit4, bit3, bit2, bit0, fun h8080 => ?i8080, fun h8085 => ?i8085⟩
  case frame => rwa [hdraws]
  case i8080 =>
    rw [bit5, bit1, hdraws, s.pswFill_8080 h8080]
    exact ⟨rfl, rfl, rfl⟩
  case i8085 => rw [hdraws, s.pswFill_8085_draws h8085]

/-- Settles O35: the pair takes the two bytes popped, each register its own. -/
theorem popOfAPair : Obligations.PopOfAPair := by
  intro s rp
  refine ⟨isF1_of_encode (fun _ => rfl) rfl, _, exec_popRP s rp, ?frame, ?bc, ?de, ?hl, fun x => ?memory⟩
  case frame => exact congrArg (·.advance 1) (State.setStackPair_state _ rp _)
  case memory =>
    rw [State.advance_content, State.setStackPair_content]
    rfl
  all_goals
    rintro rfl
    simp [State.setStackPair]

/-- Settles O36: A and the five flags are read off the two bytes popped; the rest is the frame of the
pop. -/
theorem popOfPSW : Obligations.PopOfPSW := fun s =>
  ⟨isF1_of_encode (fun _ => rfl) rfl, _, exec_popPsw s, rfl, rfl, rfl, rfl, rfl, rfl, fun _ => rfl⟩

end Sys2Proof.Machine

end

/-! ## Proofs about the exchanges (spec/42_exchange.md)

What each exchange makes of the state, with the words it moves taken apart into registers, and the
obligation. -/

section

namespace Sys2Proof.Machine

open Sys2Proof.Stated

variable (s : State)

/-- HL and DE are both taken from the state before either is written. -/
theorem exec_xchg :
    exec .xchg s =
      .next ({ s with regs := { s.regs with h := s.regs.d, l := s.regs.e,
                                            d := s.regs.h, e := s.regs.l } }.advance 1) := by
  change Host.Outcome.next (((s.setHL s.de).setDE s.hl).advance 1) = _
  have regs_swapped : ((s.setHL s.de).setDE s.hl).regs =
      { s.regs with h := s.regs.d, l := s.regs.e, d := s.regs.h, e := s.regs.l } := by
    simp [State.de, State.hl]
  rw [← regs_swapped]
  rfl

/-- The two bytes read are those of the state before the stores, and so are the two bytes stored. -/
theorem exec_xthl :
    exec .xthl s =
      .next (((({ s with draws := drawsAfterTwo s s.sp }.memWrite (s.sp + 1) s.regs.h).memWrite
        s.sp s.regs.l).setHL (joinBytes (secondByte s s.sp) (firstByte s s.sp))).advance 1) := by
  change Host.Outcome.next (((((s.memRead16 s.sp).2.memWrite (s.sp + 1) s.regs.h).memWrite
    s.sp s.regs.l).setHL (s.memRead16 s.sp).1).advance 1) = _
  rw [State.memRead16_eq]

/-- Settles O37: XCHG swaps the four registers; XTHL is two stores into the state after both reads, and the
write of HL that follows leaves memory. -/
theorem exchanges : Obligations.Exchanges := by
  refine ⟨fun s => ⟨?xchg, _, exec_xchg s, rfl, fun _ => rfl⟩,
    fun s => ⟨?xthl, _, exec_xthl s, ?frame, ?stored⟩⟩
  case xchg => exact isF1_of_encode (fun _ => rfl) rfl
  case xthl => exact isF1_of_encode (fun _ => rfl) rfl
  case frame => apply State.eq_of_fields <;> simp
  case stored =>
    exact State.memWrite_memWrite_stored2 { s with draws := drawsAfterTwo s s.sp }
      (s.sp + 1) s.sp s.regs.h s.regs.l

end Sys2Proof.Machine

end

/-! ## Proofs about input and output (spec/43_input_output.md)

The two sources of the byte that a port read gives, what IN makes of the state in these terms, and the
obligation. -/

section

namespace Sys2Proof.Machine

open Sys2Proof.Stated

variable (s : State) (port : Byte)

/-- A byte of the script is what the read gives, and nothing is drawn. -/
theorem State.ioRead_of_script {w : Byte} (h : s.inputs.portData = some w) :
    (s.ioRead port).1 = w ∧ (s.ioRead port).2.draws = s.draws := by
  rw [State.ioRead_value, State.ioRead_draws, h]
  exact ⟨rfl, rfl⟩

/-- Where the script gives no byte, the read gives the oracle's, one draw. -/
theorem State.ioRead_of_oracle (h : s.inputs.portData = none) :
    (s.ioRead port).1 = Config.inPort port s.io s.draws ∧
      (s.ioRead port).2.draws = s.draws + 1 := by
  rw [State.ioRead_value, State.ioRead_draws, h]
  exact ⟨rfl, rfl⟩

/-- The byte read goes into A; beside it the read leaves its event and its count of draws. -/
theorem exec_inPort :
    exec (.inPort port) s =
      .next (({ s with io := s.io ++ [IoEvent.read port (s.ioRead port).1],
                       draws := (s.ioRead port).2.draws }.setReg .a (s.ioRead port).1).advance 2) := by
  rw [← State.ioRead_state]
  rfl

/-- Settles O38: IN is the port read into A, by its two sources; OUT is the port write of A. -/
theorem portsInAndOut : Obligations.PortsInAndOut := by
  refine ⟨fun s port => ⟨?inPort, _, (s.ioRead port).1, exec_inPort s port, rfl,
      fun _ hscript => s.ioRead_of_script port hscript,
      fun horacle => s.ioRead_of_oracle port horacle, fun _ => rfl⟩,
    fun s port => ⟨?outPort, _, rfl, rfl, fun _ => rfl⟩⟩
  case inPort => exact isF2_of_encode (fun _ _ => rfl) fun _ => rfl
  case outPort => exact isF2_of_encode (fun _ _ => rfl) fun _ => rfl

end Sys2Proof.Machine

end

/-! ## Proofs about the arithmetic and logic with one operand (spec/44_alu_one_operand.md)

The flags that describe a result; then one rule for each shape that a meaning of this family has: a
register counted, the byte at HL counted, a pair counted, A and all five flags written; the decimal
adjustment in numbers; and the obligations. -/

section

namespace Sys2Proof.Machine

open Sys2Proof.Stated

/-! ### The flags of a result (spec/00_scope.md R11, spec/10_state.md R34) -/

/-- The bits summed by the helper and the bits counted by the statement are the same eight. -/
theorem parity8_eq (v : Byte) : parity8 v = decide (onesIn v % 2 = 0) := by
  have eight_bits : onesIn v =
      (v.getLsbD 0).toNat + (v.getLsbD 1).toNat + (v.getLsbD 2).toNat + (v.getLsbD 3).toNat +
      (v.getLsbD 4).toNat + (v.getLsbD 5).toNat + (v.getLsbD 6).toNat + (v.getLsbD 7).toNat := by
    rw [onesIn, ← List.countP_eq_length_filter]
    simp only [List.range, List.range.loop, List.countP_cons, List.countP_nil, Bool.toNat,
      Bool.cond_eq_ite]
    omega
  rw [eight_bits]
  rfl

theorem setSZP_showsResult (f : Flags) (v : Byte) : ShowsResult (setSZP f v) v := by
  refine ⟨?sign, ?zero, parity8_eq v⟩
  case sign => exact BitVec.msb_eq_decide v
  case zero => exact decide_eq_decide.mpr BitVec.toNat_eq

/-! ### One more and one less, in numbers (R143, R145) -/

theorem one_toNat : (1 : Byte).toNat = 1 := rfl

/-- The low digit carries exactly when it is 15. -/
theorem add8_one (v : Byte) :
    (add8 v 1 false).value.toNat = (v.toNat + 1) % 256 ∧
    (add8 v 1 false).ac = decide (v.toNat % 16 = 15) := by
  obtain ⟨value, -, ac⟩ := add8_spec v 1 false
  refine ⟨value, ac.trans ?_⟩
  rw [one_toNat, Bool.toNat_false, decide_eq_decide]
  omega

/-- The low digit does not borrow exactly when it is not 0. -/
theorem sub8_one (v : Byte) :
    (sub8 v 1 false).value.toNat = (v.toNat + 255) % 256 ∧
    (sub8 v 1 false).ac = decide (v.toNat % 16 ≠ 0) := by
  obtain ⟨value, -, ac⟩ := sub8_spec v 1 false
  rw [one_toNat, Bool.toNat_false] at value ac
  refine ⟨by omega, ac.trans ?_⟩
  rw [decide_eq_decide]
  omega

/-! ### The shapes of these instructions -/

section

variable {s : State} {i : Instr} {r : AluResult} {n : Nat} {c : Bool}

/-- A register takes a result, and all flags but CY are the result's. -/
theorem exec_counts_register {dst : Reg}
    (h : exec i s =
      .next (((s.setReg dst r.value).setFlags (flagsAllButCarry s.flags r)).advance 1))
    (hr : r.value.toNat = n ∧ r.ac = c) :
    ∃ t, exec i s = .next t ∧
      t = { s with regs := t.regs, flags := t.flags, pc := s.pc + 1, eiDelay := false } ∧
      (t.reg dst).toNat = n ∧ (∀ q, q ≠ dst → t.reg q = s.reg q) ∧
      ShowsResult t.flags (t.reg dst) ∧ t.flags.ac = c ∧ t.flags.cy = s.flags.cy ∧
      MemorySame s t := by
  obtain ⟨rfl, rfl⟩ := hr
  refine ⟨_, h, ?frame, ?written, fun q hq => ?others, ?shown, rfl, rfl, fun x => ?memory⟩
  case frame => apply State.eq_of_fields <;> simp
  case written => simp
  case others => simp [hq]
  case shown =>
    rw [State.advance_reg, State.setFlags_reg, State.reg_setReg, if_pos rfl]
    exact setSZP_showsResult s.flags r.value
  case memory => simp

/-- The byte at HL takes a result, as far as HL is RAM, and all flags but CY are the result's. -/
theorem exec_counts_memory
    (h : exec i s =
      .next (((s.readM.2.writeM r.value).setFlags (flagsAllButCarry s.flags r)).advance 1))
    (hr : r.value.toNat = n ∧ r.ac = c) :
    ∃ (t : State) (v : Byte), exec i s = .next t ∧
      t = { s with mem := t.mem, flags := t.flags, pc := s.pc + 1, eiDelay := false,
                   draws := (s.memRead s.hl).2.draws } ∧
      v.toNat = n ∧ Stored s t s.hl v ∧ ShowsResult t.flags v ∧ t.flags.ac = c ∧
      t.flags.cy = s.flags.cy := by
  obtain ⟨value, ac⟩ := hr
  refine ⟨_, r.value, h, ?frame, value, fun x => ?stored, setSZP_showsResult s.flags r.value, ac, rfl⟩
  case frame => apply State.eq_of_fields <;> simp [State.readM, State.writeM]
  case stored =>
    have written := (s.memRead s.hl).2.memWrite_stored s.hl r.value x
    simpa [State.readM, State.writeM] using written

/-- A pair takes a word, and no flag is written. -/
theorem exec_counts_pair {rp : RegPair} {w : Word}
    (h : exec i s = .next ((s.setPair rp w).advance 1)) (hw : w.toNat = n) :
    ∃ t, exec i s = .next t ∧
      t = { s with regs := { t.regs with a := s.regs.a }, sp := t.sp, pc := s.pc + 1,
                   eiDelay := false } ∧
      (t.pair rp).toNat = n ∧ (∀ q, q ≠ rp → t.pair q = s.pair q) ∧ MemorySame s t := by
  refine ⟨_, h, ?frame, ?written, fun q hq => ?others, fun x => ?memory⟩
  case frame => exact congrArg (·.advance 1) (s.setPair_state rp w)
  case written => rw [State.advance_pair, State.pair_setPair, if_pos rfl, hw]
  case others => rw [State.advance_pair, State.pair_setPair, if_neg hq]
  case memory => rw [State.advance_content, State.setPair_content]

/-- A takes a result and all five flags are the result's, after a read that may have drawn. -/
theorem exec_accumulates {len : Word} {draws : Nat}
    (h : exec i s = .next (({ s with draws := draws }.accumulate r).advance len)) :
    ∃ t, exec i s = .next t ∧ OnlyAccumulator s t len draws ∧ t.regs.a = r.value ∧
      ShowsResult t.flags t.regs.a ∧ t.flags.ac = r.ac ∧ t.flags.cy = r.cy :=
  ⟨_, h, ⟨rfl, fun _ => rfl⟩, rfl, setSZP_showsResult s.flags r.value, rfl, rfl⟩

end

/-! ### The decimal adjustment (R149) -/

/-- 6 is added: the low digit is not decimal, or it carried. -/
def lowAdjusts (a : Byte) (ac : Bool) : Bool := decide (9 < a.toNat % 16) || ac

/-- 0x60 is added: the high digit is not decimal, or it carried, or the low adjustment makes it 10. -/
def highAdjusts (a : Byte) (cy : Bool) : Bool :=
  decide (9 < a.toNat / 16) || cy || (decide (9 ≤ a.toNat / 16) && decide (9 < a.toNat % 16))

/-- What is added, as one byte. -/
def correction (low6 high6 : Bool) : Byte :=
  (if low6 then 0x06 else 0x00) + (if high6 then 0x60 else 0x00)

theorem correction_toNat (low6 high6 : Bool) :
    (correction low6 high6).toNat = (if low6 then 6 else 0) + (if high6 then 96 else 0) := by
  cases low6 <;> cases high6 <;> rfl

/-- The digits that `daa8` extracts are quotient and remainder by 16. -/
theorem daa8_eq (a : Byte) (ac cy : Bool) :
    daa8 a ac cy =
      { add8 a (correction (lowAdjusts a ac) (highAdjusts a cy)) false with
        cy := cy || highAdjusts a cy } := by
  have lo : (a.extractLsb' 0 4).toNat = a.toNat % 16 := by simp
  have hi : (a.extractLsb' 4 4).toNat = a.toNat / 16 := by
    rw [BitVec.extractLsb'_toNat, Nat.shiftRight_eq_div_pow]
    have := a.isLt
    omega
  simp only [daa8, lo, hi]
  rfl

theorem daa8_spec (a : Byte) (ac cy : Bool) :
    (daa8 a ac cy).value.toNat =
      (a.toNat + (if lowAdjusts a ac then 6 else 0) + (if highAdjusts a cy then 96 else 0)) % 256 ∧
    (daa8 a ac cy).ac = (lowAdjusts a ac && decide (10 ≤ a.toNat % 16)) ∧
    (daa8 a ac cy).cy = (cy || highAdjusts a cy) := by
  rw [daa8_eq]
  obtain ⟨value, -, carry⟩ := add8_spec a (correction (lowAdjusts a ac) (highAdjusts a cy)) false
  rw [correction_toNat, Bool.toNat_false, Nat.add_zero] at value carry
  refine ⟨value.trans (by rw [Nat.add_assoc]), carry.trans ?_, rfl⟩
  have digit := Nat.mod_lt a.toNat (show 0 < 16 by decide)
  cases lowAdjusts a ac <;> cases highAdjusts a cy <;> simp <;> omega

/-! ### Decimal sums (the purpose of R149) -/

section

variable {x y : Byte} (hx : IsDecimal x) (hy : IsDecimal y) (c : Bool)

include hx hy

/-- After the sum of two decimal numbers 6 is added exactly when the low digits have a decimal carry. -/
theorem lowAdjusts_add8 :
    lowAdjusts (add8 x y c).value (add8 x y c).ac =
      decide (9 < x.toNat % 16 + y.toNat % 16 + c.toNat) := by
  obtain ⟨value, -, ac⟩ := add8_spec x y c
  obtain ⟨-, xlo⟩ := hx
  obtain ⟨-, ylo⟩ := hy
  have := Bool.toNat_le c
  rw [lowAdjusts, value, ac, ← Bool.decide_or, decide_eq_decide]
  omega

/-- After the sum of two decimal numbers 0x60 is added exactly when the numbers have a decimal carry. -/
theorem highAdjusts_add8 :
    highAdjusts (add8 x y c).value (add8 x y c).cy =
      decide (99 < decimal x + decimal y + c.toNat) := by
  obtain ⟨value, cy, -⟩ := add8_spec x y c
  obtain ⟨xhi, xlo⟩ := hx
  obtain ⟨yhi, ylo⟩ := hy
  have := Bool.toNat_le c
  rw [highAdjusts, value, cy, decimal, decimal, ← Bool.decide_or, ← Bool.decide_and,
    ← Bool.decide_or, decide_eq_decide]
  omega

/-- Each decimal carry moves ten units of its digit: 6 are added for the low one, and 0x60 with the 256
that fall out, 160 in all, are taken off for the high one. -/
theorem daa8_add8_value {sum : AluResult} (hsum : add8 x y c = sum) :
    (daa8 sum.value sum.ac sum.cy).value.toNat +
        (if 99 < decimal x + decimal y + c.toNat then 160 else 0) =
      x.toNat + y.toNat + c.toNat +
        (if 9 < x.toNat % 16 + y.toNat % 16 + c.toNat then 6 else 0) := by
  subst hsum
  obtain ⟨sum_value, -, -⟩ := add8_spec x y c
  obtain ⟨value, -, -⟩ := daa8_spec (add8 x y c).value (add8 x y c).ac (add8 x y c).cy
  simp only [lowAdjusts_add8 hx hy, highAdjusts_add8 hx hy, sum_value, decide_eq_true_eq] at value
  rw [value, Nat.add_assoc (_ % _), Nat.mod_add_mod]
  obtain ⟨xhi, xlo⟩ := hx
  obtain ⟨yhi, ylo⟩ := hy
  have := Bool.toNat_le c
  unfold decimal
  split <;> split <;> omega

/-- The adjusted sum is the decimal sum modulo 100; CY is the decimal carry. -/
theorem daa8_add8 {sum : AluResult} (hsum : add8 x y c = sum) :
    IsDecimal (daa8 sum.value sum.ac sum.cy).value ∧
    decimal (daa8 sum.value sum.ac sum.cy).value = (decimal x + decimal y + c.toNat) % 100 ∧
    (daa8 sum.value sum.ac sum.cy).cy = decide (99 < decimal x + decimal y + c.toNat) := by
  have value := daa8_add8_value hx hy c hsum
  subst hsum
  obtain ⟨-, sum_cy, -⟩ := add8_spec x y c
  obtain ⟨-, -, cy⟩ := daa8_spec (add8 x y c).value (add8 x y c).ac (add8 x y c).cy
  rw [highAdjusts_add8 hx hy, sum_cy] at cy
  obtain ⟨xhi, xlo⟩ := hx
  obtain ⟨yhi, ylo⟩ := hy
  have := Bool.toNat_le c
  unfold IsDecimal
  unfold decimal at *
  refine ⟨?digits, ?number, ?carry⟩
  case digits => split at value <;> split at value <;> omega
  case number => split at value <;> split at value <;> omega
  case carry =>
    rw [sum_cy, cy, ← Bool.decide_or, decide_eq_decide]
    omega

end

/-! ### The obligations of this family -/

/-- Settles O40: both are a register counted. -/
theorem incrementAndDecrementOfARegister : Obligations.IncrementAndDecrementOfARegister := by
  refine ⟨fun s r => ⟨?inrR, exec_counts_register rfl (add8_one (s.reg r))⟩,
    fun s r => ⟨?dcrR, exec_counts_register rfl (sub8_one (s.reg r))⟩⟩
  case inrR => exact isF1_of_encode (fun _ => rfl) rfl
  case dcrR => exact isF1_of_encode (fun _ => rfl) rfl

/-- Settles O41: both are the byte at HL counted. -/
theorem incrementAndDecrementOfMemory : Obligations.IncrementAndDecrementOfMemory := by
  refine ⟨fun s => ⟨?inrM, exec_counts_memory rfl (add8_one (s.memRead s.hl).1)⟩,
    fun s => ⟨?dcrM, exec_counts_memory rfl (sub8_one (s.memRead s.hl).1)⟩⟩
  case inrM => exact isF1_of_encode (fun _ => rfl) rfl
  case dcrM => exact isF1_of_encode (fun _ => rfl) rfl

/-- Settles O42: both are a pair counted, modulo 2^16. -/
theorem incrementAndDecrementOfAPair : Obligations.IncrementAndDecrementOfAPair := by
  refine ⟨fun s rp => ⟨?inx, exec_counts_pair rfl (BitVec.toNat_add (s.pair rp) 1)⟩,
    fun s rp => ⟨?dcx, exec_counts_pair rfl ?one_less⟩⟩
  case inx => exact isF1_of_encode (fun _ => rfl) rfl
  case dcx => exact isF1_of_encode (fun _ => rfl) rfl
  case one_less => rw [BitVec.toNat_sub, Nat.add_comm]; rfl

/-- Settles O43: A takes `daa8`, whose digits are those of A. -/
theorem decimalAdjustment : Obligations.DecimalAdjustment := by
  intro s
  obtain ⟨t, hexec, frame, a_written, shown, ac_written, cy_written⟩ :=
    exec_accumulates (s := s) (i := .daa) (draws := s.draws) rfl
  obtain ⟨value, ac, cy⟩ := daa8_spec s.regs.a s.flags.ac s.flags.cy
  refine ⟨isF1_of_encode (fun _ => rfl) rfl, t, hexec, frame, ?_, shown,
    ac_written.trans ac, cy_written.trans cy⟩
  rw [a_written]
  exact value

/-- Settles O44: DAA finds in A and in the two carries what ADC has left there. -/
theorem decimalAddition : Obligations.DecimalAddition := by
  intro s src ha hsrc
  obtain ⟨t, hadc, -, sum_value, -, sum_ac, sum_cy⟩ :=
    exec_accumulates (s := s) (i := .adcR src) (draws := s.draws) rfl
  obtain ⟨u, hdaa, -, a_written, -, -, cy_written⟩ :=
    exec_accumulates (s := t) (i := .daa) (draws := t.draws) rfl
  have adjusted := daa8_add8 ha hsrc s.flags.cy rfl
  rw [← sum_value, ← sum_ac, ← sum_cy, ← a_written, ← cy_written] at adjusted
  exact ⟨t, u, hadc, hdaa, adjusted⟩

/-- Settles O39: CY and A are complemented in numbers too; the rest of the state is the frame. -/
theorem carryAndComplement : Obligations.CarryAndComplement := by
  refine ⟨fun s => ⟨?cmc, _, rfl, rfl, ?carry, fun _ => rfl⟩,
    fun s => ⟨?stc, _, rfl, rfl, fun _ => rfl⟩,
    fun s => ⟨?cma, _, rfl, rfl, BitVec.toNat_not, fun _ => rfl⟩⟩
  case cmc => exact isF1_of_encode (fun _ => rfl) rfl
  case carry => cases s.flags.cy <;> rfl
  case stc => exact isF1_of_encode (fun _ => rfl) rfl
  case cma => exact isF1_of_encode (fun _ => rfl) rfl

end Sys2Proof.Machine

end

/-! ## Proofs about the arithmetic and logic with two operands (spec/45_alu_two_operands.md)

The three forms of an operation, as the model has them (`TwoOperandForms`), and the one passage from
them to `AluForms`, for the operations that write A and for the comparison; what the results are in
numbers and bit by bit; and the obligations. -/

section

namespace Sys2Proof.Machine

open Sys2Proof.Stated

/-! ### The three forms of an operation (spec/45_alu_two_operands.md R153) -/

/-- The register, memory and immediate forms of the operation of code `ooo`, as the encoder and `exec`
have them: each hands the result of `op` on its second operand to `write` and ends. For each of the eight
operations below every field is an unfolding of these definitions. -/
structure TwoOperandForms (ooo : BitVec 3) (reg : Reg → Instr) (mem : Instr) (imm : Byte → Instr)
    (write : State → AluResult → State) (op : State → Byte → AluResult) : Prop where
  reg_wellFormed : ∀ src v, (reg src).wellFormed v = true
  mem_wellFormed : ∀ v, mem.wellFormed v = true
  imm_wellFormed : ∀ v d8, (imm d8).wellFormed v = true
  reg_encode : ∀ src, encode (reg src) = encodeF1 (opcodeAlu ooo src.code)
  mem_encode : encode mem = encodeF1 (opcodeAlu ooo codeM)
  imm_encode : ∀ d8, encode (imm d8) = encodeF2 (opcodeHigh ooo codeM) d8
  reg_exec : ∀ s src, exec (reg src) s = .next ((write s (op s (s.reg src))).advance 1)
  mem_exec : ∀ s, exec mem s = .next ((write s.readM.2 (op s s.readM.1)).advance 1)
  imm_exec : ∀ s d8, exec (imm d8) s = .next ((write s (op s d8)).advance 2)

theorem add_forms : TwoOperandForms 0b000 .addR .addM .adi State.accumulate
    (fun s v => add8 s.regs.a v false) := by constructor <;> intros <;> rfl

theorem adc_forms : TwoOperandForms 0b001 .adcR .adcM .aci State.accumulate
    (fun s v => add8 s.regs.a v s.flags.cy) := by constructor <;> intros <;> rfl

theorem sub_forms : TwoOperandForms 0b010 .subR .subM .sui State.accumulate
    (fun s v => sub8 s.regs.a v false) := by constructor <;> intros <;> rfl

theorem sbb_forms : TwoOperandForms 0b011 .sbbR .sbbM .sbi State.accumulate
    (fun s v => sub8 s.regs.a v s.flags.cy) := by constructor <;> intros <;> rfl

theorem ana_forms : TwoOperandForms 0b100 .anaR .anaM .ani State.accumulate
    (fun s v => and8 s.platform.variant s.regs.a v) := by constructor <;> intros <;> rfl

theorem xra_forms : TwoOperandForms 0b101 .xraR .xraM .xri State.accumulate
    (fun s v => xor8 s.regs.a v) := by constructor <;> intros <;> rfl

theorem ora_forms : TwoOperandForms 0b110 .oraR .oraM .ori State.accumulate
    (fun s v => or8 s.regs.a v) := by constructor <;> intros <;> rfl

theorem cmp_forms : TwoOperandForms 0b111 .cmpR .cmpM .cpi State.compareFlags
    (fun s v => sub8 s.regs.a v false) := by constructor <;> intros <;> rfl

section

variable {ooo : BitVec 3} {reg : Reg → Instr} {mem : Instr} {imm : Byte → Instr}
  {write : State → AluResult → State} {op : State → Byte → AluResult}
  {Effect : State → Byte → State → Prop}

/-- What `write` makes of a state in which a read may have drawn carries over to the three forms; only
the read at HL draws (R55). -/
theorem TwoOperandForms.aluForms (h : TwoOperandForms ooo reg mem imm write op)
    (hwrite : ∀ {i : Instr} {s : State} {v : Byte} {len : Word} {draws : Nat},
      exec i s = .next ((write { s with draws := draws } (op s v)).advance len) →
      ∃ t, exec i s = .next t ∧ OnlyAccumulator s t len draws ∧ Effect s v t) :
    AluForms ooo reg mem imm Effect := by
  refine ⟨fun s src => ⟨?reg_bytes, hwrite (h.reg_exec s src)⟩,
    fun s => ⟨?mem_bytes, hwrite ?mem_meaning⟩, fun s d8 => ⟨?imm_bytes, hwrite (h.imm_exec s d8)⟩⟩
  case reg_bytes => exact isF1_of_encode (h.reg_wellFormed src) (h.reg_encode src)
  case mem_bytes => exact isF1_of_encode h.mem_wellFormed h.mem_encode
  case imm_bytes => exact isF2_of_encode h.imm_wellFormed h.imm_encode
  case mem_meaning => rw [h.mem_exec, State.readM, ← State.memRead_state]

/-- An operation that writes A: its effect need only follow from A and the flags of the result. -/
theorem TwoOperandForms.aluForms_of_accumulate
    (h : TwoOperandForms ooo reg mem imm State.accumulate op)
    (heffect : ∀ s v t, t.regs.a = (op s v).value → ShowsResult t.flags t.regs.a →
      t.flags.ac = (op s v).ac → t.flags.cy = (op s v).cy → Effect s v t) :
    AluForms ooo reg mem imm Effect := by
  refine h.aluForms fun hexec => ?_
  obtain ⟨t, hnext, frame, value, shown, ac, cy⟩ := exec_accumulates hexec
  exact ⟨t, hnext, frame, heffect _ _ t value shown ac cy⟩

/-- All five flags are a result's and A is as it was, after a read that may have drawn. -/
theorem exec_compares {s : State} {i : Instr} {r : AluResult} {len : Word} {draws : Nat}
    (h : exec i s = .next (({ s with draws := draws }.compareFlags r).advance len)) :
    ∃ t, exec i s = .next t ∧ OnlyAccumulator s t len draws ∧ t.regs.a = s.regs.a ∧
      ShowsResult t.flags r.value ∧ t.flags.ac = r.ac ∧ t.flags.cy = r.cy :=
  ⟨_, h, ⟨rfl, fun _ => rfl⟩, rfl, setSZP_showsResult s.flags r.value, rfl, rfl⟩

end

/-! ### The results in numbers (R155, R161) -/

section

variable {s t : State} {v r : Byte} {c : Bool}

theorem addsInto_of_add8 (value : t.regs.a = (add8 s.regs.a v c).value)
    (shown : ShowsResult t.flags t.regs.a) (ac : t.flags.ac = (add8 s.regs.a v c).ac)
    (cy : t.flags.cy = (add8 s.regs.a v c).cy) : AddsInto s v c.toNat t := by
  obtain ⟨sum, carry, low_carry⟩ := add8_spec s.regs.a v c
  exact ⟨value ▸ sum, shown, cy.trans carry, ac.trans low_carry⟩

/-- The difference without negative numbers: 256 is added before the subtraction. -/
theorem sub8_value_toNat (a b : Byte) (bw : Bool) :
    (sub8 a b bw).value.toNat = (256 + a.toNat - (b.toNat + bw.toNat)) % 256 := by
  obtain ⟨difference, -, -⟩ := sub8_spec a b bw
  have := b.isLt
  have := Bool.toNat_le bw
  omega

theorem showsDifference_of_sub8 (value : r = (sub8 s.regs.a v c).value)
    (shown : ShowsResult t.flags r) (ac : t.flags.ac = (sub8 s.regs.a v c).ac)
    (cy : t.flags.cy = (sub8 s.regs.a v c).cy) : ShowsDifference s v c.toNat r t := by
  obtain ⟨-, borrow, low_no_borrow⟩ := sub8_spec s.regs.a v c
  exact ⟨value ▸ sub8_value_toNat s.regs.a v c, shown, cy.trans borrow, ac.trans low_no_borrow⟩

end

/-! ### The obligations of this family -/

/-- Settles O45: both take the sum that `add8` computes, without and with CY. -/
theorem additions : Obligations.Additions :=
  ⟨add_forms.aluForms_of_accumulate fun _ _ _ => addsInto_of_add8,
    adc_forms.aluForms_of_accumulate fun _ _ _ => addsInto_of_add8⟩

/-- Settles O46: both take the difference that `sub8` computes, without and with the borrow. -/
theorem subtractions : Obligations.Subtractions :=
  ⟨sub_forms.aluForms_of_accumulate fun _ _ _ => showsDifference_of_sub8,
    sbb_forms.aluForms_of_accumulate fun _ _ _ => showsDifference_of_sub8⟩

/-- Settles O47: AC is the one flag that depends on the variant (R172). -/
theorem logicalAnd : Obligations.LogicalAnd := by
  refine ana_forms.aluForms_of_accumulate fun s v t value shown ac cy =>
    ⟨value, shown, cy, fun h8080 => ?on8080, fun h8085 => ?on8085⟩
  case on8080 => rw [ac, h8080]; exact BitVec.getLsbD_or
  case on8085 => rw [ac, h8085]; rfl

/-- Settles O48: the operations on bytes are those on their bits. -/
theorem logicalOrs : Obligations.LogicalOrs := by
  refine ⟨xra_forms.aluForms_of_accumulate fun s v t value shown ac cy => ⟨fun k => ?xor, shown, cy, ac⟩,
    ora_forms.aluForms_of_accumulate fun s v t value shown ac cy => ⟨fun k => ?or, shown, cy, ac⟩⟩
  case xor => rw [value]; exact BitVec.getLsbD_xor
  case or => rw [value]; exact BitVec.getLsbD_or

/-- Settles O49: the flags are those of the difference of O46, and A is not written. -/
theorem comparisons : Obligations.Comparisons := by
  refine cmp_forms.aluForms fun hexec => ?_
  obtain ⟨t, hnext, frame, unchanged, shown, ac, cy⟩ := exec_compares hexec
  exact ⟨t, hnext, frame, unchanged, _, showsDifference_of_sub8 rfl shown ac cy⟩

end Sys2Proof.Machine

end

/-! ## Proofs about the rotations and DAD (spec/46_rotate_and_dad.md)

A byte shifted by one place with a bit put in at the end, bit by bit; one rule for each direction of a
rotation; the carry of the 17-bit sum in numbers; and the obligations. -/

section

namespace Sys2Proof.Machine

open Sys2Proof.Stated

/-! ### A byte shifted by one place (R190 to R193) -/

/-- The low seven bits with a bit put in below: each moves up by one place. -/
theorem shiftUp_bits (a : Byte) (x : BitVec 1) :
    (∀ k, k < 7 → (a.extractLsb' 0 7 ++ x).getLsbD (k + 1) = a.getLsbD k) ∧
    (a.extractLsb' 0 7 ++ x).getLsbD 0 = x.getLsbD 0 := by
  refine ⟨fun k hk => ?moved, BitVec.getLsbD_append⟩
  case moved => rw [BitVec.getLsbD_append]; simp [hk]

/-- The high seven bits with a bit put in above: each moves down by one place. -/
theorem shiftDown_bits (a : Byte) (x : BitVec 1) :
    (∀ k, k < 7 → (x ++ a.extractLsb' 1 7).getLsbD k = a.getLsbD (k + 1)) ∧
    (x ++ a.extractLsb' 1 7).getLsbD 7 = x.getLsbD 0 := by
  refine ⟨fun k hk => ?moved, BitVec.getLsbD_append⟩
  case moved => rw [BitVec.getLsbD_append]; simp [hk, Nat.add_comm]

/-! ### The two directions of a rotation -/

section

variable {s : State} {i : Instr} {x : BitVec 1} {b c : Bool}

/-- A moves up with the bit `b` put in below, and CY is the one flag written. -/
theorem exec_rotates_left
    (h : exec i s = .next (((s.setReg .a (s.regs.a.extractLsb' 0 7 ++ x)).setCarry c).advance 1))
    (hx : x.getLsbD 0 = b) :
    ∃ t, exec i s = .next t ∧ OnlyAccumulator s t 1 s.draws ∧
      (∀ k, k < 7 → t.regs.a.getLsbD (k + 1) = s.regs.a.getLsbD k) ∧
      t.regs.a.getLsbD 0 = b ∧ t.flags = { s.flags with cy := c } := by
  obtain ⟨moved, put_in⟩ := shiftUp_bits s.regs.a x
  exact ⟨_, h, ⟨rfl, fun _ => rfl⟩, moved, put_in.trans hx, rfl⟩

/-- A moves down with the bit `b` put in above, and CY is the one flag written. -/
theorem exec_rotates_right
    (h : exec i s = .next (((s.setReg .a (x ++ s.regs.a.extractLsb' 1 7)).setCarry c).advance 1))
    (hx : x.getLsbD 0 = b) :
    ∃ t, exec i s = .next t ∧ OnlyAccumulator s t 1 s.draws ∧
      (∀ k, k < 7 → t.regs.a.getLsbD k = s.regs.a.getLsbD (k + 1)) ∧
      t.regs.a.getLsbD 7 = b ∧ t.flags = { s.flags with cy := c } := by
  obtain ⟨moved, put_in⟩ := shiftDown_bits s.regs.a x
  exact ⟨_, h, ⟨rfl, fun _ => rfl⟩, moved, put_in.trans hx, rfl⟩

end

/-! ### The 17-bit sum in numbers (R194) -/

/-- The sum of two words fits in 17 bits: bit 16 is the carry, and the low 16 bits are the sum modulo
2^16. -/
theorem sum17_spec (v w : Word) :
    ((v.setWidth 17 + w.setWidth 17).setWidth 16).toNat = (v.toNat + w.toNat) % 65536 ∧
    (v.setWidth 17 + w.setWidth 17).getLsbD 16 = decide (65535 < v.toNat + w.toNat) := by
  have sum : (v.setWidth 17 + w.setWidth 17).toNat = v.toNat + w.toNat := by
    have := v.isLt
    have := w.isLt
    rw [BitVec.toNat_add, BitVec.toNat_setWidth, BitVec.toNat_setWidth]
    omega
  refine ⟨?low, ?carry⟩
  case low => rw [BitVec.toNat_setWidth, sum]
  case carry =>
    calc (v.setWidth 17 + w.setWidth 17).getLsbD 16
      _ = (v.setWidth 17 + w.setWidth 17).msb := (BitVec.msb_eq_getLsbD_last _).symm
      _ = decide (65536 ≤ (v.setWidth 17 + w.setWidth 17).toNat) := BitVec.msb_eq_decide _
      _ = decide (65535 < v.toNat + w.toNat) := by rw [sum]; rfl

/-! ### The obligations of this family -/

/-- Settles O50: RLC and RRC put in the bit that A gives up at its other end, RAL and RAR put in CY. -/
theorem rotations : Obligations.Rotations := by
  refine fun s => ⟨⟨?rlc, exec_rotates_left rfl ?bit7⟩, ⟨?rrc, exec_rotates_right rfl ?bit0⟩,
    ⟨?ral, exec_rotates_left rfl ?carry_below⟩, ⟨?rar, exec_rotates_right rfl ?carry_above⟩⟩
  case rlc => exact isF1_of_encode (fun _ => rfl) rfl
  case rrc => exact isF1_of_encode (fun _ => rfl) rfl
  case ral => exact isF1_of_encode (fun _ => rfl) rfl
  case rar => exact isF1_of_encode (fun _ => rfl) rfl
  case bit7 => exact BitVec.getLsbD_extractLsb' ..
  case bit0 => exact BitVec.getLsbD_extractLsb' ..
  case carry_below => exact BitVec.getLsbD_ofBool ..
  case carry_above => exact BitVec.getLsbD_ofBool ..

/-- Settles O51: the pair is read before HL is written, so that DAD H doubles HL. -/
theorem doubleAddition : Obligations.DoubleAddition := by
  intro s rp
  obtain ⟨low, carry⟩ := sum17_spec s.hl (s.pair rp)
  refine ⟨?dad, _, rfl, ?frame, ?sum, fun _ => rfl⟩
  case dad => exact isF1_of_encode (fun _ => rfl) rfl
  case frame => rw [← carry]; rfl
  case sum => rw [State.advance_hl, State.setCarry_hl, State.setHL_hl, low]

end Sys2Proof.Machine

end

/-! ## Proofs about the branches (spec/47_branch.md)

What a jump leaves, taken or not; the eight conditional jumps as one family over the condition; and the
obligations. -/

section

namespace Sys2Proof.Machine

open Sys2Proof.Stated

variable {s : State} {i : Instr}

/-! ### A jump, and a jump on a condition -/

/-- A jump: `pc` and EI_DELAY are all that is written. -/
theorem exec_jumps {target : Word} (h : exec i s = .next (s.jumpTo target)) :
    ∃ t, exec i s = .next t ∧ t = { s with pc := target, eiDelay := false } ∧ MemorySame s t :=
  ⟨_, h, rfl, s.jumpTo_content target⟩

/-- Both ways of the condition are jumps: an untaken one goes to the next instruction (R203). -/
theorem State.jumpIf_eq (s : State) (cond : Cond) (adr : Word) :
    s.jumpIf cond adr = s.jumpTo (if condHolds s.flags cond then adr else s.pc + 3) :=
  (apply_ite s.jumpTo _ adr (s.pc + 3)).symm

theorem exec_jumpsIf {cond : Cond} {adr : Word} (h : exec i s = .next (s.jumpIf cond adr)) :
    JumpsIf s i (condHolds s.flags cond) adr :=
  exec_jumps (h.trans (congrArg _ (s.jumpIf_eq cond adr)))

/-! ### The family Jcc (R203) -/

/-- Jcc, the conditional jump on `cond`: rules R204 to R211 in the order of R202. -/
def jcc : Cond → Word → Instr
  | .nz => .jnz
  | .z => .jz
  | .nc => .jnc
  | .c => .jc
  | .po => .jpo
  | .pe => .jpe
  | .p => .jp
  | .m => .jm

theorem jcc_wellFormed (cond : Cond) (v : Variant) (adr : Word) :
    (jcc cond adr).wellFormed v = true := by cases cond <;> rfl

/-- The pattern `11ccc010` of R203. -/
theorem encode_jcc (cond : Cond) (adr : Word) :
    encode (jcc cond adr) = encodeF3 (opcodeHigh cond.code 0b010) adr := by cases cond <;> rfl

theorem exec_jcc (cond : Cond) (adr : Word) (s : State) :
    exec (jcc cond adr) s = .next (s.jumpIf cond adr) := by cases cond <;> rfl

/-- R203 for every condition: the encoding, and the jump taken exactly when the condition holds. -/
theorem jcc_spec (cond : Cond) (adr : Word) (s : State) :
    IsF3 (opcodeHigh cond.code 0b010) (jcc cond) ∧
      JumpsIf s (jcc cond adr) (condHolds s.flags cond) adr :=
  ⟨isF3_of_encode (jcc_wellFormed cond) (encode_jcc cond), exec_jumpsIf (exec_jcc cond adr s)⟩

/-! ### The obligations of this family -/

/-- Settles O52: both are jumps, PCHL to the word in HL and JMP to its operand. -/
theorem unconditionalJumps : Obligations.UnconditionalJumps := by
  refine ⟨fun s => ⟨?pchl, exec_jumps rfl⟩, fun s adr => ⟨?jmp, exec_jumps rfl⟩⟩
  case pchl => exact isF1_of_encode (fun _ => rfl) rfl
  case jmp => exact isF3_of_encode (fun _ _ => rfl) fun _ => rfl

/-- Settles O53: the eight members are Jcc at the eight conditions. -/
theorem conditionalJumps : Obligations.ConditionalJumps := fun s adr =>
  ⟨jcc_spec .nz adr s, jcc_spec .z adr s, jcc_spec .nc adr s, jcc_spec .c adr s,
    jcc_spec .po adr s, jcc_spec .pe adr s, jcc_spec .p adr s, jcc_spec .m adr s⟩

end Sys2Proof.Machine

end

/-! ## Proofs about the calls and returns (spec/48_call_return.md)

What a call and a return leave, taken or not; the eight conditional calls and the eight conditional
returns as one family each over the condition; and the obligations. -/

section

namespace Sys2Proof.Machine

open Sys2Proof.Stated

variable {s : State} {i : Instr}

/-! ### A call, and a call on a condition -/

/-- A call: memory at the two pushed addresses, SP, `pc` and EI_DELAY are all that is written. -/
theorem exec_calls {ret target : Word} (h : exec i s = .next (s.callTo ret target)) :
    Calls s i ret target :=
  ⟨_, h, s.callTo_state ret target, s.push16_stored2 ret⟩

theorem State.callIf_taken {cond : Cond} (h : condHolds s.flags cond = true) (adr : Word) :
    s.callIf cond adr = s.callTo (s.pc + 3) adr := if_pos h

theorem State.callIf_untaken {cond : Cond} (h : condHolds s.flags cond = false) (adr : Word) :
    s.callIf cond adr = s.jumpTo (s.pc + 3) := if_neg (by simp [h])

/-- Taken it is a call with the return address of CALL; untaken it goes to the next instruction (R217). -/
theorem exec_callsIf {cond : Cond} {adr : Word} (h : exec i s = .next (s.callIf cond adr)) :
    CallsIf s i (condHolds s.flags cond) adr :=
  ⟨fun taken => exec_calls (by rw [h, State.callIf_taken taken]),
    fun untaken => exec_jumps (by rw [h, State.callIf_untaken untaken])⟩

/-! ### A return, and a return on a condition -/

/-- A return: `pc` takes the two bytes read at SP; a read may draw (R55). -/
theorem exec_returns (h : exec i s = .next s.returnFromStack) : Returns s i :=
  ⟨_, h, s.returnFromStack_state, s.returnFromStack_content⟩

theorem State.returnIf_taken {cond : Cond} (h : condHolds s.flags cond = true) :
    s.returnIf cond = s.returnFromStack := if_pos h

theorem State.returnIf_untaken {cond : Cond} (h : condHolds s.flags cond = false) :
    s.returnIf cond = s.jumpTo (s.pc + 1) := if_neg (by simp [h])

/-- Taken it is a return; untaken it goes to the next instruction (R234). -/
theorem exec_returnsIf {cond : Cond} (h : exec i s = .next (s.returnIf cond)) :
    ReturnsIf s i (condHolds s.flags cond) :=
  ⟨fun taken => exec_returns (by rw [h, State.returnIf_taken taken]),
    fun untaken => exec_jumps (by rw [h, State.returnIf_untaken untaken])⟩

/-! ### The families Ccc (R217) and Rcc (R234) -/

/-- Ccc, the conditional call on `cond`: rules R218 to R225 in the order of R202. -/
def ccc : Cond → Word → Instr
  | .nz => .cnz
  | .z => .cz
  | .nc => .cnc
  | .c => .cc
  | .po => .cpo
  | .pe => .cpe
  | .p => .cp
  | .m => .cm

theorem ccc_wellFormed (cond : Cond) (v : Variant) (adr : Word) :
    (ccc cond adr).wellFormed v = true := by cases cond <;> rfl

/-- The pattern `11ccc100` of R217. -/
theorem encode_ccc (cond : Cond) (adr : Word) :
    encode (ccc cond adr) = encodeF3 (opcodeHigh cond.code 0b100) adr := by cases cond <;> rfl

theorem exec_ccc (cond : Cond) (adr : Word) (s : State) :
    exec (ccc cond adr) s = .next (s.callIf cond adr) := by cases cond <;> rfl

/-- R217 for every condition: the encoding, and the call made exactly when the condition holds. -/
theorem ccc_spec (cond : Cond) (adr : Word) (s : State) :
    IsF3 (opcodeHigh cond.code 0b100) (ccc cond) ∧
      CallsIf s (ccc cond adr) (condHolds s.flags cond) adr :=
  ⟨isF3_of_encode (ccc_wellFormed cond) (encode_ccc cond), exec_callsIf (exec_ccc cond adr s)⟩

/-- Rcc, the conditional return on `cond`: rules R235 to R242 in the order of R202. -/
def rcc : Cond → Instr
  | .nz => .rnz
  | .z => .rz
  | .nc => .rnc
  | .c => .rc
  | .po => .rpo
  | .pe => .rpe
  | .p => .rp
  | .m => .rm

theorem rcc_wellFormed (cond : Cond) (v : Variant) : (rcc cond).wellFormed v = true := by
  cases cond <;> rfl

/-- The pattern `11ccc000` of R234. -/
theorem encode_rcc (cond : Cond) : encode (rcc cond) = encodeF1 (opcodeHigh cond.code 0b000) := by
  cases cond <;> rfl

theorem exec_rcc (cond : Cond) (s : State) : exec (rcc cond) s = .next (s.returnIf cond) := by
  cases cond <;> rfl

/-- R234 for every condition: the encoding, and the return made exactly when the condition holds. -/
theorem rcc_spec (cond : Cond) (s : State) :
    IsF1 (opcodeHigh cond.code 0b000) (rcc cond) ∧
      ReturnsIf s (rcc cond) (condHolds s.flags cond) :=
  ⟨isF1_of_encode (rcc_wellFormed cond) (encode_rcc cond), exec_returnsIf (exec_rcc cond s)⟩

/-! ### The target of RST N -/

/-- The target of RST N, and of a maskable interrupt with restart number N (R227, R266). -/
theorem restartAddress_toNat (n : BitVec 3) : (restartAddress n).toNat = 8 * n.toNat := by
  have : n.toNat < 8 := n.isLt
  simp only [restartAddress, BitVec.toNat_shiftLeft, BitVec.toNat_setWidth, Nat.shiftLeft_eq]
  omega

/-! ### The obligations of this family -/

/-- Settles O54: both are calls, with the address of the next instruction to return to. -/
theorem callAndRestart : Obligations.CallAndRestart := by
  refine ⟨fun s adr => ⟨?call, exec_calls rfl⟩,
    fun s n => ⟨?rst, restartAddress n, restartAddress_toNat n, exec_calls rfl⟩⟩
  case call => exact isF3_of_encode (fun _ _ => rfl) fun _ => rfl
  case rst => exact isF1_of_encode (fun _ => rfl) rfl

/-- Settles O55: the eight members are Ccc at the eight conditions. -/
theorem conditionalCalls : Obligations.ConditionalCalls := fun s adr =>
  ⟨ccc_spec .nz adr s, ccc_spec .z adr s, ccc_spec .nc adr s, ccc_spec .c adr s,
    ccc_spec .po adr s, ccc_spec .pe adr s, ccc_spec .p adr s, ccc_spec .m adr s⟩

/-- Settles O56: RET, and Rcc at the eight conditions. -/
theorem returnsFromSubroutines : Obligations.ReturnsFromSubroutines := fun s =>
  ⟨⟨isF1_of_encode (fun _ => rfl) rfl, exec_returns rfl⟩,
    rcc_spec .nz s, rcc_spec .z s, rcc_spec .nc s, rcc_spec .c s,
    rcc_spec .po s, rcc_spec .pe s, rcc_spec .p s, rcc_spec .m s⟩

end Sys2Proof.Machine

end

/-! ## Proofs about the processor control instructions (spec/49_control.md)

What RIM and SIM make of the state, the byte that RIM reads bit by bit, the effect of SIM field by field,
and the obligations. -/

section

namespace Sys2Proof.Machine

open Sys2Proof.Stated

variable {s : State}

/-! ### RIM (R250, R281) -/

theorem exec_rim (h : s.platform.variant = .i8085) :
    exec .rim s =
      .next (({ s with irq := { s.irq with trapInte := none } }.setReg .a s.rimImage).advance 1) := by
  rw [exec, execRim, h]

/-- Where each input and each bit of the interrupt state stands in the byte that RIM reads. -/
theorem State.rimImage_bits (s : State) :
    s.rimImage.getLsbD 7 = s.inputs.sid ∧ s.rimImage.getLsbD 6 = s.irq.i75 ∧
    s.rimImage.getLsbD 5 = s.inputs.rst65 ∧ s.rimImage.getLsbD 4 = s.inputs.rst55 ∧
    s.rimImage.getLsbD 3 = s.irq.trapInte.getD s.inte ∧ s.rimImage.getLsbD 2 = s.irq.m75 ∧
    s.rimImage.getLsbD 1 = s.irq.m65 ∧ s.rimImage.getLsbD 0 = s.irq.m55 := by
  simp only [State.rimImage, BitVec.getLsbD_append, BitVec.getLsbD_ofBool]
  simp

/-! ### SIM (R251) -/

theorem exec_sim (h : s.platform.variant = .i8085) :
    exec .sim s = .next ({ s with irq := simEffect s.regs.a s.irq }.advance 1) := by
  rw [exec, execSim, h]

/-- Each field by its own: the three parts of SIM write different fields. -/
theorem simEffect_eq (a : Byte) (q : Irq85) :
    simEffect a q =
      { q with
        m75 := if a.getLsbD 3 then a.getLsbD 2 else q.m75
        m65 := if a.getLsbD 3 then a.getLsbD 1 else q.m65
        m55 := if a.getLsbD 3 then a.getLsbD 0 else q.m55
        i75 := if a.getLsbD 4 then false else q.i75
        sod := if a.getLsbD 6 then a.getLsbD 7 else q.sod } := by
  unfold simEffect
  cases a.getLsbD 3 <;> cases a.getLsbD 4 <;> cases a.getLsbD 6 <;> rfl

/-! ### The obligations of this family -/

/-- Settles O57: each is the end of an instruction and one write of the control state. -/
theorem interruptEnableHaltAndNop : Obligations.InterruptEnableHaltAndNop := by
  refine fun s => ⟨⟨?ei, _, rfl, rfl, fun _ => rfl⟩, ⟨?di, _, rfl, rfl, fun _ => rfl⟩,
    ⟨?hlt, _, rfl, rfl, fun _ => rfl⟩, ⟨?nop, _, rfl, rfl, fun _ => rfl⟩⟩
  all_goals exact isF1_of_encode (fun _ => rfl) rfl

/-- Settles O58: the bits of the image; with no TRAP remembered, forgetting it changes nothing. -/
theorem readInterruptMasks : Obligations.ReadInterruptMasks := by
  refine ⟨fun s h8085 hnone =>
      ⟨⟨rfl, decode_encode (i := .rim) rfl⟩, _, exec_rim h8085, ?frame, ?bits⟩,
    fun s h8080 => by rw [exec, execRim, h8080]⟩
  case frame =>
    have forgotten : { s.irq with trapInte := none } = s.irq := by rw [← hnone]
    rw [forgotten]
    rfl
  case bits =>
    obtain ⟨bit7, bit6, bit5, bit4, bit3, bit2, bit1, bit0⟩ := s.rimImage_bits
    rw [hnone] at bit3
    exact ⟨bit7, bit6, bit5, bit4, bit3, bit2, bit1, bit0, fun _ => rfl⟩

/-- Settles O59: the bits of the image, of which bit 3 is the INTE remembered. -/
theorem theFirstRimAfterATrap : Obligations.TheFirstRimAfterATrap := by
  intro s b h8085 hsome
  obtain ⟨bit7, bit6, bit5, bit4, bit3, bit2, bit1, bit0⟩ := s.rimImage_bits
  rw [hsome] at bit3
  exact ⟨_, exec_rim h8085, rfl, bit3, bit7, bit6, bit5, bit4, bit2, bit1, bit0, fun _ => rfl⟩

/-- Settles O60: the effect of SIM field by field. -/
theorem setInterruptMasks : Obligations.SetInterruptMasks := by
  refine ⟨fun s h8085 =>
      ⟨⟨rfl, decode_encode (i := .sim) rfl⟩, _, exec_sim h8085, ?frame, fun _ => rfl⟩,
    fun s h8080 => by rw [exec, execSim, h8080]⟩
  case frame =>
    rw [simEffect_eq]
    rfl

end Sys2Proof.Machine

end

/-! ## Proofs about interrupts and the halted state (spec/60_exceptions.md)

One rule for each part of the choice of the event at a boundary (`boundaryEvent_of_…`, `ownRestart`); what
an event makes of the state (`takeEvent_enters`); both at the head of a script (`enters_of_event`); then the
obligations. -/

section

namespace Sys2Proof.Machine

open Sys2Proof.Stated

variable {s t : State} {e : BoundaryEvent}

/-! ### The event of a boundary (R261, R263, R286) -/

theorem State.maskableOpen_of_open (hopen : Open s) : s.maskableOpen = true := by
  obtain ⟨hinte, hdelay⟩ := hopen
  simp [State.maskableOpen, hinte, hdelay]

theorem State.maskableOpen_of_not_open (hclosed : ¬ Open s) : s.maskableOpen = false := by
  simpa [State.maskableOpen, Open] using hclosed

/-- Reset is before every other event (R272). -/
theorem State.boundaryEvent_of_reset (hreset : s.inputs.reset = true) :
    s.boundaryEvent = some .reset := if_pos hreset

theorem State.boundaryEvent_of_8080 (hreset : s.inputs.reset = false)
    (h8080 : s.platform.variant = .i8080) : s.boundaryEvent = s.intrEvent := by
  simp [State.boundaryEvent, hreset, h8080]

theorem State.boundaryEvent_of_8085 (hreset : s.inputs.reset = false)
    (h8085 : s.platform.variant = .i8085) : s.boundaryEvent = s.event85 := by
  simp [State.boundaryEvent, hreset, h8085]

/-- TRAP is before every other event of the 8085 but reset (R281). -/
theorem State.boundaryEvent_of_trap (h8085 : s.platform.variant = .i8085)
    (hreset : s.inputs.reset = false) (htrap : s.inputs.trap = true) :
    s.boundaryEvent = some .trap := by
  rw [State.boundaryEvent_of_8085 hreset h8085]
  exact if_pos htrap

/-- With INTE = 0 or EI_DELAY = 1 reset and TRAP are the only events (R263, R267). -/
theorem State.boundaryEvent_of_closed (hclosed : ¬ Open s) :
    s.boundaryEvent =
      if s.inputs.reset then some .reset
      else if s.platform.variant = .i8085 ∧ s.inputs.trap = true then some .trap
      else none := by
  have hmaskable := State.maskableOpen_of_not_open hclosed
  cases hv : s.platform.variant <;>
    simp [State.boundaryEvent, State.event85, State.intrEvent, hv, hmaskable]

theorem State.boundaryEvent_mem_of_closed (hclosed : ¬ Open s) :
    s.boundaryEvent ∈ [none, some .reset, some .trap] := by
  rw [State.boundaryEvent_of_closed hclosed]
  split
  · simp
  · split <;> simp

theorem State.intrEvent_of_rst {n : BitVec 3} (hopen : Open s) (hintr : s.inputs.intr = .rst n) :
    s.intrEvent = some (.intr n) := by
  simp [State.intrEvent, State.maskableOpen_of_open hopen, hintr]

theorem State.intrEvent_cases (h : s.intrEvent = some e) :
    (∃ n, e = .intr n) ∨ ∃ op, e = .injected op := by
  unfold State.intrEvent at h
  split at h
  · split at h <;> cases h <;> simp
  · cases h

/-! ### The restart inputs of the 8085 (R282 to R284) -/

/-- Of the inputs RST 7.5, RST 6.5 and RST 5.5 the first that is requested and not masked. -/
def ownRestart (q : Irq85) (i : Inputs) : Option BoundaryEvent :=
  if q.i75 && !q.m75 then some .rst75
  else if i.rst65 && !q.m65 then some .rst65
  else if i.rst55 && !q.m55 then some .rst55
  else none

section

variable {q : Irq85} {i : Inputs}

theorem ownRestart_eq_rst75_iff : ownRestart q i = some .rst75 ↔ (q.i75 && !q.m75) = true := by
  unfold ownRestart
  split_ifs <;> simp_all

theorem ownRestart_eq_rst65_iff :
    ownRestart q i = some .rst65 ↔ (q.i75 && !q.m75) = false ∧ (i.rst65 && !q.m65) = true := by
  unfold ownRestart
  split_ifs <;> simp_all

theorem ownRestart_eq_rst55_iff :
    ownRestart q i = some .rst55 ↔
      (q.i75 && !q.m75) = false ∧ (i.rst65 && !q.m65) = false ∧ (i.rst55 && !q.m55) = true := by
  unfold ownRestart
  split_ifs <;> simp_all

theorem ownRestart_eq_none (h75 : (q.i75 && !q.m75) = false) (h65 : (i.rst65 && !q.m65) = false)
    (h55 : (i.rst55 && !q.m55) = false) : ownRestart q i = none := by
  simp [ownRestart, h75, h65, h55]

end

/-- The 8085's order below TRAP, where a maskable request can be accepted (R282 to R286). -/
theorem State.boundaryEvent_of_open (hreset : s.inputs.reset = false)
    (h8085 : s.platform.variant = .i8085) (htrap : s.inputs.trap = false) (hopen : Open s) :
    s.boundaryEvent = (ownRestart s.irq s.inputs).or s.intrEvent := by
  rw [State.boundaryEvent_of_8085 hreset h8085]
  simp only [State.event85, ownRestart, htrap, State.maskableOpen_of_open hopen, Bool.true_and,
    Bool.false_eq_true, if_false]
  split_ifs <;> rfl

/-- The events of the restart inputs of the 8085's own that INTE disables. -/
def IsOwnRestart (e : BoundaryEvent) : Prop := e = .rst75 ∨ e = .rst65 ∨ e = .rst55

theorem State.intrEvent_ne_ownRestart (he : IsOwnRestart e) : s.intrEvent ≠ some e := by
  intro h
  rcases State.intrEvent_cases h with ⟨n, rfl⟩ | ⟨op, rfl⟩ <;> simp [IsOwnRestart] at he

/-- A restart input is the event only on the 8085, below TRAP, where a maskable request can be
accepted. -/
theorem State.open_of_ownRestart (hreset : s.inputs.reset = false) (he : IsOwnRestart e)
    (h : s.boundaryEvent = some e) :
    s.platform.variant = .i8085 ∧ s.inputs.trap = false ∧ Open s := by
  have h8085 : s.platform.variant = .i8085 := by
    cases hv : s.platform.variant with
    | i8080 =>
      rw [State.boundaryEvent_of_8080 hreset hv] at h
      exact absurd h (State.intrEvent_ne_ownRestart he)
    | i8085 => rfl
  have htrap : s.inputs.trap = false := by
    by_contra hrisen
    rw [State.boundaryEvent_of_trap h8085 hreset (by simpa using hrisen)] at h
    cases h
    simp [IsOwnRestart] at he
  refine ⟨h8085, htrap, ?_⟩
  by_contra hclosed
  rw [State.boundaryEvent_of_closed hclosed] at h
  simp [hreset, htrap] at h

/-- When a restart input is the event: it comes before INTR, which is never one of them. -/
theorem State.boundaryEvent_eq_ownRestart_iff (hreset : s.inputs.reset = false)
    (he : IsOwnRestart e) :
    s.boundaryEvent = some e ↔
      s.platform.variant = .i8085 ∧ s.inputs.trap = false ∧ Open s ∧
        ownRestart s.irq s.inputs = some e := by
  have first (h8085 : s.platform.variant = .i8085) (htrap : s.inputs.trap = false)
      (hopen : Open s) : s.boundaryEvent = some e ↔ ownRestart s.irq s.inputs = some e := by
    rw [State.boundaryEvent_of_open hreset h8085 htrap hopen, Option.or_eq_some_iff,
      or_iff_left fun h => State.intrEvent_ne_ownRestart he h.2]
  constructor
  · intro h
    obtain ⟨h8085, htrap, hopen⟩ := State.open_of_ownRestart hreset he h
    exact ⟨h8085, htrap, hopen, (first h8085 htrap hopen).mp h⟩
  · rintro ⟨h8085, htrap, hopen, h⟩
    exact (first h8085 htrap hopen).mpr h

/-! ### What an event makes of the state -/

/-- Every event but reset enters a handler (R266, R281 to R284). -/
theorem takeEvent_enters (h : takeEvent e s = .next t) (he : e ≠ .reset) :
    ∃ q target, t = { s with irq := q }.enterInterrupt target := by
  rcases takeEvent_cases h with
    ⟨rfl, -⟩ | ⟨-, rfl⟩ | ⟨-, rfl⟩ | ⟨-, rfl⟩ | ⟨-, rfl⟩ | ⟨_, -, rfl⟩
  · exact absurd rfl he
  all_goals exact ⟨_, _, rfl⟩

/-- Every event ends the halt and clears EI_DELAY (R267, R268, R301). -/
theorem takeEvent_clears (h : takeEvent e s = .next t) : t.halted = false ∧ t.eiDelay = false := by
  by_cases he : e = .reset
  · subst he
    cases h
    exact ⟨rfl, rfl⟩
  · obtain ⟨q, target, rfl⟩ := takeEvent_enters h he
    exact ⟨State.enterInterrupt_halted _ _, State.enterInterrupt_eiDelay _ _⟩

/-- An entry pushes `pc` (R266). -/
theorem State.enterInterrupt_stored2 (s : State) (target : Word) :
    Stored2 s (s.enterInterrupt target) (s.sp - 1) (highByte s.pc) (s.sp - 2) (lowByte s.pc) :=
  State.push16_stored2 { s with inte := false, halted := false } s.pc

theorem takeEvent_pushes (h : takeEvent e s = .next t) (he : e ≠ .reset) :
    t.sp = s.sp - 2 ∧ Stored2 s t (s.sp - 1) (highByte s.pc) (s.sp - 2) (lowByte s.pc) := by
  obtain ⟨q, target, rfl⟩ := takeEvent_enters h he
  exact ⟨State.enterInterrupt_sp _ _, State.enterInterrupt_stored2 { s with irq := q } target⟩

/-! ### A step that takes an event -/

theorem step_of_event (h : s.sampleInputs.boundaryEvent = some e) :
    step s = takeEvent e s.sampleInputs := by
  simp [step, h]

@[simp] theorem State.sampleInputs_open : Open s.sampleInputs ↔ Open s := by
  simp [Open]

/-- Sampling the inputs leaves every byte of memory and its kind. -/
theorem stored2_of_sampleInputs {adr1 adr2 : Word} {v1 v2 : Byte}
    (h : Stored2 s.sampleInputs t adr1 v1 adr2 v2) : Stored2 s t adr1 v1 adr2 v2 := by
  intro x
  simpa using h x

section

variable {i : Inputs} {rest : List Inputs} (hscript : s.script = i :: rest)
include hscript

/-- The first answer of the script is sampled, and the rest of it stays (log 10). -/
theorem State.sampleInputs_of_script :
    s.sampleInputs = { s with inputs := i, script := rest, irq := s.sampleInputs.irq } := by
  have hsample := s.sampleInputs_state
  rwa [hscript] at hsample

theorem State.sampleInputs_inputs_of_script : s.sampleInputs.inputs = i := by
  simp [hscript]

/-- On the 8085 an edge of RST 7.5 is latched (R280). -/
theorem State.sampleInputs_irq_8085 (h8085 : s.platform.variant = .i8085) :
    s.sampleInputs.irq = { s.irq with i75 := s.irq.i75 || i.rst75Edge } := by
  rw [State.sampleInputs_irq, h8085, hscript]
  rfl

/-- An event that means an entry from the sampled state gives the step of R266. -/
theorem enters_of_event {q : Irq85} {target : Word} (hevent : s.sampleInputs.boundaryEvent = some e)
    (htake : takeEvent e s.sampleInputs =
      .next ({ s.sampleInputs with irq := q }.enterInterrupt target)) :
    Enters s i rest q target := by
  refine ⟨{ s with inputs := i, script := rest, irq := q }.enterInterrupt target, ?step,
    State.enterInterrupt_state _ target, State.enterInterrupt_stored2 _ target⟩
  case step => rw [step_of_event hevent, htake, State.sampleInputs_of_script hscript]

/-- When a restart input is the event of a step, in terms of the state before it: the latch is tested
with the edge of this boundary (log 20). -/
theorem State.sampled_eq_ownRestart_iff (hreset : i.reset = false) (he : IsOwnRestart e) :
    s.sampleInputs.boundaryEvent = some e ↔
      s.platform.variant = .i8085 ∧ i.trap = false ∧ Open s ∧
        ownRestart { s.irq with i75 := s.irq.i75 || i.rst75Edge } i = some e := by
  have hinputs := State.sampleInputs_inputs_of_script hscript
  rw [State.boundaryEvent_eq_ownRestart_iff (by rwa [hinputs]) he, hinputs,
    State.sampleInputs_platform, State.sampleInputs_open]
  refine and_congr_right fun h8085 => ?_
  rw [State.sampleInputs_irq_8085 hscript h8085]

end

/-! ### The obligations of this family -/

/-- Settles O14: the ways of a step from a halted state, which runs no instruction. -/
theorem theHaltedState : Obligations.TheHaltedState := by
  intro s hhalted
  refine ⟨fun hnone => ?stays, fun t ht => ?ends, fun hinte => ?disabled,
    fun t e hevent he ht => ?pushes⟩
  case stays => simp [step, hnone, hhalted]
  case ends =>
    rcases step_cases ht with ⟨e, hevent, htake⟩ | ⟨hnone, -, rfl⟩ | ⟨-, hrun, -⟩
    · simp [hevent, takeEvent_clears htake]
    · simp [hnone, hhalted]
    · simp [hhalted] at hrun
  case disabled => exact State.boundaryEvent_mem_of_closed (by simp [Open, hinte])
  case pushes =>
    rw [step_of_event hevent] at ht
    obtain ⟨hsp, stored⟩ := takeEvent_pushes ht he
    rw [State.sampleInputs_sp] at hsp stored
    rw [State.sampleInputs_pc] at stored
    exact ⟨hsp, stored2_of_sampleInputs stored⟩

/-- Settles O15: TRAP is the event, and its entry remembers INTE. -/
theorem trapIsAlwaysTaken : Obligations.TrapIsAlwaysTaken := by
  intro s i rest h8085 hscript hreset htrap
  have hinputs := State.sampleInputs_inputs_of_script hscript
  have hevent : s.sampleInputs.boundaryEvent = some .trap :=
    State.boundaryEvent_of_trap (by simpa using h8085) (by rwa [hinputs]) (by rwa [hinputs])
  have henters := enters_of_event hscript hevent rfl
  rwa [State.sampleInputs_irq_8085 hscript h8085, State.sampleInputs_inte] at henters

/-- Settles O16: RST 7.5 is the first of the restart inputs; its entry clears the latch. -/
theorem rst75IsTaken : Obligations.Rst75IsTaken := by
  intro s i rest hscript hreset
  have when := State.sampled_eq_ownRestart_iff hscript hreset (e := .rst75) (.inl rfl)
  rw [ownRestart_eq_rst75_iff] at when
  refine ⟨fun h8085 htrap hopen hlatch hmask => ?entry, fun hevent => ?conditions⟩
  case entry =>
    have hevent := when.mpr ⟨h8085, htrap, hopen, by simp [hlatch, hmask]⟩
    have henters := enters_of_event hscript hevent rfl
    rwa [State.sampleInputs_irq_8085 hscript h8085] at henters
  case conditions =>
    obtain ⟨h8085, htrap, hopen, hrequest⟩ := when.mp hevent
    exact ⟨h8085, htrap, hopen, by simpa using hrequest⟩

/-- Settles O17: RST 6.5 and RST 5.5 are the second and the third of the restart inputs; their entries
leave the latch as sampled. -/
theorem rst65AndRst55AreTaken : Obligations.Rst65AndRst55AreTaken := by
  intro s i rest hscript hreset
  have when65 := State.sampled_eq_ownRestart_iff hscript hreset (e := .rst65) (.inr (.inl rfl))
  have when55 := State.sampled_eq_ownRestart_iff hscript hreset (e := .rst55) (.inr (.inr rfl))
  rw [ownRestart_eq_rst65_iff] at when65
  rw [ownRestart_eq_rst55_iff] at when55
  refine ⟨fun h8085 htrap hopen h75 h65 => ?entry65, fun h8085 htrap hopen h75 h65 h55 => ?entry55,
    when65.mp, when55.mp⟩
  case entry65 =>
    rw [← State.sampleInputs_irq_8085 hscript h8085]
    exact enters_of_event hscript (when65.mpr ⟨h8085, htrap, hopen, h75, h65⟩) rfl
  case entry55 =>
    rw [← State.sampleInputs_irq_8085 hscript h8085]
    exact enters_of_event hscript (when55.mpr ⟨h8085, htrap, hopen, h75, h65, h55⟩) rfl

/-- Settles O18: where it can be accepted, the request is the event on the 8080, and on the 8085 if none
of its own inputs is; where it cannot, only reset and TRAP are events. -/
theorem theMaskableInterrupt : Obligations.TheMaskableInterrupt := by
  intro s i rest n hscript hreset hintr
  have hinputs := State.sampleInputs_inputs_of_script hscript
  have hreset' : s.sampleInputs.inputs.reset = false := by rwa [hinputs]
  have request (hopen : Open s) : s.sampleInputs.intrEvent = some (.intr n) :=
    State.intrEvent_of_rst (State.sampleInputs_open.mpr hopen) (by rwa [hinputs])
  refine ⟨fun h8080 hopen => ⟨_, restartAddress_toNat n, ?entry80⟩,
    fun h8085 hopen htrap h75 h65 h55 => ⟨_, restartAddress_toNat n, ?entry85⟩,
    fun hclosed htrap => ?closed⟩
  case entry80 =>
    have hirq : s.sampleInputs.irq = s.irq := by rw [State.sampleInputs_irq, h8080]
    have hevent : s.sampleInputs.boundaryEvent = some (.intr n) := by
      rw [State.boundaryEvent_of_8080 hreset' (by simpa using h8080), request hopen]
    rw [← hirq]
    exact enters_of_event hscript hevent rfl
  case entry85 =>
    have hirq := State.sampleInputs_irq_8085 hscript h8085
    have hnone : ownRestart s.sampleInputs.irq i = none := by
      rw [hirq]
      exact ownRestart_eq_none h75 h65 h55
    have hevent : s.sampleInputs.boundaryEvent = some (.intr n) := by
      rw [State.boundaryEvent_of_open hreset' (by simpa using h8085) (by rwa [hinputs])
        (State.sampleInputs_open.mpr hopen), request hopen, hinputs, hnone, Option.none_or]
    rw [← hirq]
    exact enters_of_event hscript hevent rfl
  case closed =>
    have hnot_open : ¬ Open s := by rcases hclosed with h | h <;> simp [Open, h]
    rw [State.boundaryEvent_of_closed (mt State.sampleInputs_open.mp hnot_open), hinputs,
      State.sampleInputs_platform]
    simpa [hreset] using htrap

/-- Settles O20: of the instructions EI alone leaves EI_DELAY set, and no event does; while it is set no
maskable request can be accepted. -/
theorem eiDelayBookkeeping : Obligations.EiDelayBookkeeping := by
  refine ⟨fun i s t h => ?instructions, fun e s t h => (takeEvent_clears h).2,
    fun s hdelay => ?closed, fun s => State.boundaryEvent_of_trap⟩
  case instructions =>
    by_cases hi : i = .ei
    · subst hi
      cases h
      rfl
    · rw [decide_eq_false hi]
      rcases exec_cases h with
        ⟨-, hdelay⟩ | ⟨hei, -⟩ | ⟨-, rfl⟩ | ⟨-, rfl⟩ | ⟨-, -, rfl⟩ | ⟨-, -, rfl⟩
      · exact hdelay
      · exact absurd hei hi
      all_goals rfl
  case closed => exact State.boundaryEvent_mem_of_closed (by simp [Open, hdelay])

end Sys2Proof.Machine

end

/-! ## Proofs about reset during a run (spec/70_reset_and_hazards.md)

Reset is the event at a boundary that samples it, and its meaning is `applyReset` of the sampled state. -/

section

namespace Sys2Proof.Machine

open Sys2Proof.Stated

/-- Settles O22: the meaning of the event, and that it leaves what ROM reads as; the sampling before it
changes nothing else that reset keeps. -/
theorem resetDuringARun : Obligations.ResetDuringARun := by
  intro s i rest hscript hreset
  have hevent : s.sampleInputs.boundaryEvent = some .reset :=
    State.boundaryEvent_of_reset (by rwa [State.sampleInputs_inputs_of_script hscript])
  refine ⟨s.sampleInputs.applyReset, step_of_event hevent, ?frame, ⟨rfl, rfl, rfl, rfl, rfl⟩,
    fun x hrom => ?rom⟩
  case frame =>
    rw [State.sampleInputs_of_script hscript]
    rfl
  case rom =>
    rw [State.applyReset_content_rom _ x (by simpa using hrom), State.sampleInputs_content]

end Sys2Proof.Machine

end
